-- ==== Sys2Proof/Word.lean ====
section
/-! DEFINITION. The word types of the part: bus words, sets of takers, and the numbers that name
entries, takers, strings, slots, marks, channels, levels and limit classes (spec/00_scope.md section 8). -/

namespace Sys2Proof

/-- One access of the local bus moves 32 bits (R172). -/
abbrev Word := BitVec 32

/-- A set of takers 0 to 3: bit t stands for taker t (10.5, service word 11:8; R135). -/
abbrev TakerSet := BitVec 4

/-- A taker, 0 to 3. -/
abbrev Taker := Fin 4

/-- An entry of the source directory, 0 to 95. -/
abbrev EntryNo := Fin 96

/-- A request string, 0 to 2. -/
abbrev StringNo := Fin 3

/-- A slot of a string, 0 to 23. -/
abbrev SlotNo := Fin 24

/-- A mark of a shared slot, 0 to 7. -/
abbrev Mark := Fin 8

/-- A posted channel, 0 to 15. -/
abbrev Channel := Fin 16

/-- A level, 1 to 15 for an entry; the same numbers with 0 are a floor or a threshold (R36). -/
abbrev Level := Fin 16

/-- A limit class, 0 to 7; class 0 is no limit (R76). -/
abbrev LimitClass := Fin 8

/-- The command code of 10.2: four bits, of which 0, 14 and 15 name no command. -/
abbrev CommandCode := BitVec 4

end Sys2Proof
end

