-- ==== Sys2Proof/Syntax.lean ====
section
/-! DEFINITION. The commands and events of the part: one constructor for each row of
spec/opcode_table.json, in the table's order of families. -/

namespace Sys2Proof

/-- A command or event of the part, taken whole (spec/95_what_each_step_holds.md). The commands that a
write to GO issues carry the word written, which the part does not use (R146). -/
inductive Instr where
  /-- CLAIM (R40, R43): the CLAIM reads of the takers of `group` are presented together. -/
  | claim (group : TakerSet)
  /-- PEEK (R39): taker `t` reads PEEK. -/
  | peek (t : Taker)
  /-- DONE (R58): taker `t` writes `v` to DONE. -/
  | done (t : Taker) (v : Word)
  /-- YIELD (R63): taker `t` writes `v` to YIELD. -/
  | yield (t : Taker) (v : Word)
  /-- FLOOR (R68): taker `t` writes `v` to FLOOR. -/
  | floor (t : Taker) (v : Word)
  /-- POST (R136): taker `t` writes `v` to POST. -/
  | post (t : Taker) (v : Word)
  /-- TRESET (R70, R71): taker `t` writes `v` to TRESET. -/
  | treset (t : Taker) (v : Word)
  /-- IGNORED_WRITE (R172): a write of `v` to the word address `a` (A8 to A2) that takes no write. -/
  | ignoredWrite (a : BitVec 7) (v : Word)
  /-- CMD_WRITE (R146, R148): a write of `v` to CMDk. -/
  | cmdWrite (k : Fin 8) (v : Word)
  /-- MSTAT_READ (R149). -/
  | mstatRead
  /-- MCTL_WRITE (R150): a write of `v` to MCTL. -/
  | mctlWrite (v : Word)
  /-- UNDEFINED_COMMAND (R146): GO with a command code that names no command. -/
  | undefinedCommand (go : Word)
  /-- BIND (R21). -/
  | bind (go : Word)
  /-- AMEND (R22). -/
  | amend (go : Word)
  /-- RETIRE (R26). -/
  | retire (go : Word)
  /-- LOOKUP (R157). -/
  | lookup (go : Word)
  /-- FIND (R158). -/
  | find (go : Word)
  /-- SWEEP (R159). -/
  | sweep (go : Word)
  /-- SWEEP_EXAMINATION (R161): one examination of the SWEEP in flight. -/
  | sweepExamination
  /-- POST_COMMAND (R140): the management POST. -/
  | postCommand (go : Word)
  /-- PERMIT (R141). -/
  | permit (go : Word)
  /-- TAKER_ENABLE (R74). -/
  | takerEnable (go : Word)
  /-- TAKER_HALT (R74). -/
  | takerHalt (go : Word)
  /-- TAKER_NONE (R155). -/
  | takerNone (go : Word)
  /-- START (R100), an action of STRING. -/
  | start (go : Word)
  /-- STOP (R101), an action of STRING. -/
  | stop (go : Word)
  /-- MODE (R102), an action of STRING. -/
  | mode (go : Word)
  /-- DIVISOR (R103), an action of STRING. -/
  | divisor (go : Word)
  /-- LIMIT (R78). -/
  | limit (go : Word)
  /-- CONDITION (R168). -/
  | condition (go : Word)
  /-- RESET_DIRECTORY (R156). -/
  | resetDirectory (go : Word)
  /-- CLEARING_FREE (R27): clearing frees the next entry. -/
  | clearingFree
  /-- RESET_DIRECTORY_COMPLETION (R28). -/
  | resetDirectoryCompletion
  /-- NEXT_CYCLE_CHOICE (R121) on string `n`. -/
  | nextCycleChoice (n : StringNo)
  /-- SCAN_END (R111) on string `n`; bit i of `samples` is 1 where bit time i was sampled low. -/
  | scanEnd (n : StringNo) (samples : BitVec 54)
  /-- ROLL_CALL_END (R125) on string `n`; bit i of `samples` is 1 where bit time i was sampled low. -/
  | rollCallEnd (n : StringNo) (samples : BitVec 27)
  /-- WAKE_HOLD (R107): a wake hold is complete on string `n`. -/
  | wakeHold (n : StringNo)
  /-- TICK (R81). -/
  | tick
  /-- FIRST_EXPIRY (R83): the directory controller takes a first expiry of entry `e`. -/
  | firstExpiry (e : EntryNo)
  /-- SECOND_EXPIRY (R84): the directory controller takes a second expiry of entry `e`. -/
  | secondExpiry (e : EntryNo)
  /-- POWER_ON (R175). -/
  | powerOn
  /-- RESETN_ASSERT (R175). -/
  | resetnAssert
  /-- RESETN_RELEASE (R77, R175), after RESETn was held for `held` REFCLK periods. -/
  | resetnRelease (held : Nat)
  /-- GO_WHILE_BUSY (R148). -/
  | goWhileBusy (go : Word)
  /-- STRING_BAD_ACTION (R104): a STRING command whose action is none of the four. -/
  | stringBadAction (go : Word)
  /-- TAKER_BAD_ACTION (R155): a TAKER command whose action is none of the three. -/
  | takerBadAction (go : Word)
  deriving DecidableEq, Repr

end Sys2Proof
end

