-- ==== Sys2Proof/Decode.lean ====
section
/-! DEFINITION. What the part decodes: the address map of the local bus (spec/10 section 10.1), and the
command a table word spells. No row of spec/opcode_table.json gives bits, so no word spells a command. -/

namespace Sys2Proof

/-- A word of a taker window (10.1). -/
inductive TakerWord where
  | claim | peek | done | yield | floor | post | treset | stack | answer | unused
  deriving DecidableEq, Repr

/-- A word of the address map (10.1): of a taker window, of the management window, or in no window. -/
inductive BusWord where
  | taker (t : Taker) (w : TakerWord)
  | cmd (k : Fin 8)
  | go
  | mstat
  | summary
  | mctl
  | mgmtUnused
  | res (k : Fin 16)
  | unmapped
  deriving DecidableEq, Repr

/-- The word at offset 4j of a taker window (10.1). -/
def takerWordAt (j : Nat) : TakerWord :=
  if j = 0 then .claim
  else if j = 1 then .peek
  else if j = 2 then .done
  else if j = 3 then .yield
  else if j = 4 then .floor
  else if j = 5 then .post
  else if j = 6 then .treset
  else if j = 7 then .stack
  else if j = 8 then .answer
  else .unused

/-- The word at offset 4j of the management window (10.1). -/
def mgmtWordAt (j : Nat) : BusWord :=
  if j < 8 then .cmd (Fin.ofNat 8 j)
  else if j = 8 then .go
  else if j = 9 then .mstat
  else if j = 10 then .summary
  else if j = 11 then .mctl
  else if j < 16 then .mgmtUnused
  else .res (Fin.ofNat 16 (j - 16))

/-- The word that A8 to A2 choose (R172 and the map of 10.1). -/
def wordAt (a : BitVec 7) : BusWord :=
  if a.toNat < 64 then .taker (Fin.ofNat 4 (a.toNat / 16)) (takerWordAt (a.toNat % 16))
  else if a.toNat < 96 then mgmtWordAt (a.toNat - 64)
  else .unmapped

/-- Whether a write to the word has an effect of its own; a write to any other word is ignored
(R49, R144, R172). -/
def BusWord.takesWrite : BusWord → Bool
  | .taker _ .done => true
  | .taker _ .yield => true
  | .taker _ .floor => true
  | .taker _ .post => true
  | .taker _ .treset => true
  | .taker _ .claim => false
  | .taker _ .peek => false
  | .taker _ .stack => false
  | .taker _ .answer => false
  | .taker _ .unused => false
  | .cmd _ => true
  | .go => true
  | .mctl => true
  | .mstat => false
  | .summary => false
  | .mgmtUnused => false
  | .res _ => false
  | .unmapped => false

/-- The command a word of the table spells: none, because no row of the table gives bits
(spec/98_reader.md: n_rows_with_fixed 0, n_rows_with_fields 0). -/
def decodeTableWord (_nbits _w : Nat) : Option Instr := none

end Sys2Proof
end

