-- ==== Sys2Proof/Config.lean ====
section
/-! DEFINITION. The figures of spec/00_scope.md section 8 that are not already the bound of a type.
The spec leaves no value open, so this file holds no free value. -/

namespace Sys2Proof.Config

/-- Entries of the directory. -/
def entryCount : Nat := 96

/-- Depth of a service stack (R52). -/
def stackDepth : Nat := 4

/-- Length of a withdrawn list (R65). -/
def withdrawnLength : Nat := 4

/-- Numbers in a SWEEP page (R161). -/
def sweepPage : Nat := 12

/-- Consecutive faulted cycles that fault a string (R109). -/
def faultThreshold : Nat := 3

/-- Bit times of a scan (R95). -/
def scanLength : Nat := 54

/-- Bit times of a roll call (R122). -/
def rollCallLength : Nat := 27

/-- Smallest and largest divisor of a string (R103). -/
def divisorMin : Nat := 4
def divisorMax : Nat := 1023

/-- Smallest prescaler value (R77); the field's width gives the largest, 65535. -/
def prescalerMin : Nat := 16

/-- REFCLK periods for which RESETn must be held (R175). -/
def resetHold : Nat := 16

/-- How a position above a stack's depth or beyond a list's count reads: 7FH (R72, R155). -/
def noEntry : Nat := 127

end Sys2Proof.Config
end

