-- ==== Sys2Proof/Machine/State.lean ====
section
/-! DEFINITION. The state of the part, block by block, as plain data; the state right after reset; and
the reasons a step can stop. -/

namespace Sys2Proof.Machine

/-- The key of a bound entry (R7): its source kind and the identity fields that kind holds (R2). -/
inductive Key where
  | wire (n : StringNo) (k : SlotNo) (m : Option Mark)
  | posted (c : Channel)
  deriving DecidableEq, Repr

/-- The sense of an entry (R3). -/
inductive Sense where
  | edge
  | level
  deriving DecidableEq, Repr

/-- The policy of a limit-table row (R76). -/
inductive Policy where
  | note
  | reclaim
  deriving DecidableEq, Repr

/-- A row of the limit table (R76). -/
structure LimitRow where
  duration : BitVec 16
  policy : Policy
  deriving DecidableEq, Repr

/-- The running-limit record of a held entry (R79). `row` is the table row of the loaded class (row r
stands for class r + 1). `expired` says that an expiry of this record was handed to the directory
controller and is not yet taken (R81); it goes with the record, as R82 discards it. -/
structure RunningLimit where
  row : Fin 7
  remaining : BitVec 16
  expired : Bool
  deriving DecidableEq, Repr

/-- The fields that describe a service in progress (R4, R5). `limit` is present while a limit runs. -/
structure Service where
  holder : Taker
  expiries : Fin 2
  overdue : Bool
  stagedLevel : Option Level
  stagedDormancy : Bool
  again : Bool
  limit : Option RunningLimit
  deriving DecidableEq, Repr

/-- The state of a bound entry (R9). The service fields exist in HELD and RETIRING alone, so they are
absent in every other state (R4, R5). -/
inductive Phase where
  | dormant
  | armed
  | raised
  | held (v : Service)
  | retiring (v : Service)
  deriving DecidableEq, Repr

/-- The record of a bound entry (section 1.1). -/
structure Entry where
  key : Key
  level : Level
  sense : Sense
  eligible : TakerSet
  tag : BitVec 16
  limitClass : LimitClass
  reoffered : Bool
  hits : BitVec 16
  phase : Phase
  deriving DecidableEq, Repr

/-- The last answer code of a taker port (R50). -/
inductive Answer where
  | ok | late | order | notHeld | denied | noChannel | range
  deriving DecidableEq, Repr

/-- What a taker port holds (R48). `readData` is the word its latest CLAIM or PEEK read returned, the
model's own record of that output. -/
structure TakerPort where
  enabled : Bool
  floor : Level
  answer : Answer
  lastDone : Word
  lastYield : Word
  lastPost : Word
  lastTreset : Word
  readData : Option Word
  deriving DecidableEq, Repr

/-- The state of a string (section 5.3). -/
inductive StringState where
  | off | running | resting | faulted
  deriving DecidableEq, Repr

/-- The mode of a string (R102, R105). -/
inductive StringMode where
  | continuous
  | onDemand
  deriving DecidableEq, Repr

/-- The cycle a string has in flight (R97, R123); a roll call keeps the slot it named. -/
inductive Cycle where
  | scan
  | rollCall (k : SlotNo)
  deriving DecidableEq, Repr

/-- What a string engine holds (R99). `cycle` is none in a gap and while the clock is stopped; `clock` is
the number of REFCLK periods since the present cycle or gap began (R94). -/
structure StringEngine where
  state : StringState
  mode : StringMode
  divisor : BitVec 10
  faults : Fin 4
  stopPending : Bool
  pendingMode : Option StringMode
  history : BitVec 24
  rollCalls : List SlotNo
  marks : Vector (BitVec 8) 24
  cycle : Option Cycle
  clock : Nat
  deriving DecidableEq, Repr

/-- The culprit of a condition row, by kind (10.8). -/
inductive Culprit where
  | entry (e : EntryNo)
  | slot (n : StringNo) (k : SlotNo)
  | mark (n : StringNo) (k : SlotNo) (m : Mark)
  | channel (c : Channel)
  | taker (t : Taker)
  | takerChannel (t : Taker) (c : Channel)
  | command (c : CommandCode)
  | string (n : StringNo)
  deriving DecidableEq, Repr

/-- The names of the nine condition rows (section 9.1). -/
inductive CondRow where
  | stray | silent | stringFault | overdue | withdrawn | late | protocol | denied | collision
  deriving DecidableEq, Repr

/-- The contents of a condition row (R164). -/
structure Condition where
  latched : Bool
  count : BitVec 8
  culprit : Option Culprit
  enabled : Bool
  deriving DecidableEq, Repr

/-- The source filter of a SWEEP (R159). -/
inductive SourceFilter where
  | any
  | wire
  | wireString (n : StringNo)
  | wireSlot (n : StringNo) (k : SlotNo)
  | posted
  | postedChannel (c : Channel)
  deriving DecidableEq, Repr

/-- A SWEEP in flight (R159, R161): its fields, the entry to examine next, and the page in ascending
order. -/
structure SweepRun where
  states : BitVec 6
  low : Level
  high : Level
  filter : SourceFilter
  next : EntryNo
  page : List EntryNo
  deriving DecidableEq, Repr

/-- The command slot (section 8.2). Only SWEEP and RESET DIRECTORY take time, so only they are ever
seen in flight; the directory is clearing exactly while RESET DIRECTORY is (R156), which keeps the
number of entries bound when clearing began. -/
inductive CommandSlot where
  | idle
  | sweep (run : SweepRun)
  | resetDirectory (bound : Nat)
  deriving DecidableEq, Repr

/-- The result codes (10.2). -/
inductive ResultCode where
  | ok | staged | dropped | deferred | taken | noRoom | keyClash | noEntry | noChannel | badState
  | badField
  deriving DecidableEq, Repr

/-- The whole state of the part. The queue of waiting commands is the model's; every other field is the
spec's. -/
structure State where
  /-- The commands that wait, first in first out. -/
  pending : List Instr
  /-- RESETn is asserted (R175). -/
  inReset : Bool
  /-- The source directory (R1); an entry that is FREE has no record. -/
  entries : Vector (Option Entry) 96
  /-- The level queues, head first; position k - 1 is the queue of level k (R29). -/
  queues : Vector (List EntryNo) 15
  /-- The service stacks, top first (R52). -/
  serviceStacks : Vector (List EntryNo) 4
  /-- The withdrawn lists, oldest first (R65). -/
  withdrawn : Vector (List EntryNo) 4
  /-- The offer arbiter's pointer (R42). -/
  arbiter : Taker
  /-- The taker ports (R48). -/
  takers : Vector TakerPort 4
  /-- The limit table; position r is the row of class r + 1 (R76). -/
  limits : Vector LimitRow 7
  /-- The prescaler value P (R77). -/
  prescaler : BitVec 16
  /-- REFCLK periods counted since the last tick (R77). -/
  prescaleCount : Nat
  /-- The string engines (R99). -/
  strings : Vector StringEngine 3
  /-- The permission masks of the posted channels (R135). -/
  masks : Vector TakerSet 16
  /-- CMD0 to CMD7 (R145). -/
  cmd : Vector Word 8
  /-- RES0 to RES15 (R145). -/
  res : Vector Word 16
  /-- The command slot (R145). -/
  slot : CommandSlot
  /-- The last completed command; none before the first (R145). -/
  lastCommand : Option CommandCode
  /-- The result code of the last completed command (R145). -/
  resultCode : ResultCode
  /-- The done flag (R147). -/
  doneFlag : Bool
  /-- The done-alert enable, the word MCTL (R150). -/
  doneEnable : Bool
  /-- The word the latest MSTAT read returned, the model's own record of that output. -/
  mstatData : Option Word
  /-- The condition rows, in the order of section 9.1 (R164). -/
  conditions : Vector Condition 9
  deriving DecidableEq, Repr

/-- The reset value of a taker port (R48). -/
def TakerPort.reset : TakerPort :=
  { enabled := false, floor := 0, answer := .ok, lastDone := 0#32, lastYield := 0#32,
    lastPost := 0#32, lastTreset := 0#32, readData := none }

/-- The reset value of a string engine (R99). -/
def StringEngine.reset : StringEngine :=
  { state := .off, mode := .continuous, divisor := 64#10, faults := 0, stopPending := false,
    pendingMode := none, history := 0#24, rollCalls := [], marks := Vector.replicate 24 0#8,
    cycle := none, clock := 0 }

/-- The reset value of a condition row (R164). -/
def Condition.reset : Condition :=
  { latched := false, count := 0#8, culprit := none, enabled := false }

/-- The state right after reset: every block at the values its chapter gives for power-on and RESETn
(R1, R35, R42, R48, R55, R76, R77, R79, R99, R120, R127, R135, R145, R164), with RESETn released. -/
def State.reset : State :=
  { pending := []
    inReset := false
    entries := Vector.replicate 96 none
    queues := Vector.replicate 15 []
    serviceStacks := Vector.replicate 4 []
    withdrawn := Vector.replicate 4 []
    arbiter := 3
    takers := Vector.replicate 4 TakerPort.reset
    limits := Vector.replicate 7 { duration := 1000#16, policy := .note }
    prescaler := 320#16
    prescaleCount := 0
    strings := Vector.replicate 3 StringEngine.reset
    masks := Vector.replicate 16 0#4
    cmd := Vector.replicate 8 0#32
    res := Vector.replicate 16 0#32
    slot := .idle
    lastCommand := none
    resultCode := .ok
    doneFlag := false
    doneEnable := false
    mstatData := none
    conditions := Vector.replicate 9 Condition.reset }

/-- Why a step can fault. -/
inductive Fault where
  /-- Raised by RESETN_RELEASE after RESETn was held for fewer than 16 REFCLK periods, which "leaves the
  part's state undefined by this manual" (R175). Safe: nothing can be proved of a run past it. -/
  | shortReset
  deriving DecidableEq, Repr

/-- Why a step can be refused. -/
inductive Refusal where
  /-- Raised by an arm of exec whose command has no meaning yet; no arm raises it. Safe: the run stops. -/
  | notModelled (mnemonic : String)
  deriving DecidableEq, Repr

end Sys2Proof.Machine
end

