-- ==== Sys2Proof/Machine/Ops.lean ====
section
/-! DEFINITION. The named operations of the blocks over the state: reading and changing entries, queues,
stacks and lists; reports; occurrences and lapses; the ends of a service; freeing. Every change of an
entry's state in the model is made by one of them. -/

namespace Sys2Proof.Machine

/-! ### One home for each piece of state -/

/-- The record of entry e; none where it is FREE (R1). -/
def State.entry (s : State) (e : EntryNo) : Option Entry := s.entries[e]

def State.setEntry (s : State) (e : EntryNo) (o : Option Entry) : State :=
  { s with entries := s.entries.set e.val o e.isLt }

/-- The queue of level k, head first. There are fifteen queues, for levels 1 to 15 (R29). -/
def State.queue (s : State) (k : Level) : List EntryNo :=
  if h : k.val = 0 then [] else s.queues[k.val - 1]'(by omega)

def State.setQueue (s : State) (k : Level) (q : List EntryNo) : State :=
  if h : k.val = 0 then s else { s with queues := s.queues.set (k.val - 1) q (by omega) }

/-- The service stack of taker t, top first (R52). -/
def State.stack (s : State) (t : Taker) : List EntryNo := s.serviceStacks[t]

def State.setStack (s : State) (t : Taker) (l : List EntryNo) : State :=
  { s with serviceStacks := s.serviceStacks.set t.val l t.isLt }

/-- The withdrawn list of taker t, oldest first (R65). -/
def State.withdrawnOf (s : State) (t : Taker) : List EntryNo := s.withdrawn[t]

def State.setWithdrawn (s : State) (t : Taker) (l : List EntryNo) : State :=
  { s with withdrawn := s.withdrawn.set t.val l t.isLt }

/-- The port of taker t (R48). -/
def State.port (s : State) (t : Taker) : TakerPort := s.takers[t]

def State.setPort (s : State) (t : Taker) (p : TakerPort) : State :=
  { s with takers := s.takers.set t.val p t.isLt }

/-- The engine of string n (R99). -/
def State.string (s : State) (n : StringNo) : StringEngine := s.strings[n]

def State.setString (s : State) (n : StringNo) (g : StringEngine) : State :=
  { s with strings := s.strings.set n.val g n.isLt }

/-- The position of a condition row (section 9.1). -/
def CondRow.ix : CondRow → Fin 9
  | .stray => 0
  | .silent => 1
  | .stringFault => 2
  | .overdue => 3
  | .withdrawn => 4
  | .late => 5
  | .protocol => 6
  | .denied => 7
  | .collision => 8

/-- The contents of a condition row (R164). -/
def State.cond (s : State) (r : CondRow) : Condition := s.conditions[r.ix]

def State.setCond (s : State) (r : CondRow) (c : Condition) : State :=
  { s with conditions := s.conditions.set r.ix.val c r.ix.isLt }

/-! ### Entry records -/

/-- The service in progress, in HELD and RETIRING (R4). -/
def Entry.service (b : Entry) : Option Service :=
  match b.phase with
  | .dormant => none
  | .armed => none
  | .raised => none
  | .held v => some v
  | .retiring v => some v

/-- The entry with its service record replaced, in the state it is in; no change outside service. -/
def Entry.withService (b : Entry) (v : Service) : Entry :=
  match b.phase with
  | .dormant => b
  | .armed => b
  | .raised => b
  | .held _ => { b with phase := .held v }
  | .retiring _ => { b with phase := .retiring v }

/-- The record with the service field `limit` replaced. -/
def Entry.withLimit (b : Entry) (l : Option RunningLimit) : Entry :=
  match b.service with
  | none => b
  | some v => b.withService { v with limit := l }

/-- Whether the entry is RAISED. -/
def Entry.isRaised (b : Entry) : Bool :=
  match b.phase with
  | .raised => true
  | .dormant => false
  | .armed => false
  | .held _ => false
  | .retiring _ => false

/-- Whether the entry is RETIRING. -/
def Entry.isRetiring (b : Entry) : Bool :=
  match b.phase with
  | .retiring _ => true
  | .dormant => false
  | .armed => false
  | .raised => false
  | .held _ => false

/-- Whether the entry is HELD. -/
def Entry.isHeld (b : Entry) : Bool :=
  match b.phase with
  | .held _ => true
  | .dormant => false
  | .armed => false
  | .raised => false
  | .retiring _ => false

/-- A hit count saturates at 65535 (R6). -/
def bumpHits (h : BitVec 16) : BitVec 16 := if h = 0xFFFF#16 then h else h + 1#16

/-- The entry that a number names, if it is 0 to 95 (R51, R154). -/
def entryNo? (v : Nat) : Option EntryNo := if h : v < 96 then some ⟨v, h⟩ else none

/-- All entry numbers in ascending order. -/
def allEntries : List EntryNo := List.finRange 96

/-- Whether entry e is bound with the key (R7). -/
def State.hasKey (s : State) (key : Key) (e : EntryNo) : Bool :=
  match s.entry e with
  | none => false
  | some b => b.key == key

/-- The bound entry that holds a key, in any bound state, RETIRING included (R7). -/
def State.findKey (s : State) (key : Key) : Option EntryNo := allEntries.find? (s.hasKey key)

/-- Whether entry e is bound to a mark of the slot. -/
def State.namesMarked (s : State) (n : StringNo) (k : SlotNo) (e : EntryNo) : Bool :=
  match s.entry e with
  | none => false
  | some b =>
    match b.key with
    | .wire n' k' (some _) => n' == n && k' == k
    | .wire _ _ none => false
    | .posted _ => false

/-- The marked entries of a slot (R7, R8), in ascending entry number. -/
def State.markedAt (s : State) (n : StringNo) (k : SlotNo) : List EntryNo :=
  allEntries.filter (s.namesMarked n k)

/-- The directory is clearing (R27): RESET DIRECTORY is in flight. -/
def State.clearing (s : State) : Bool :=
  match s.slot with
  | .idle => false
  | .sweep _ => false
  | .resetDirectory _ => true

/-! ### Level queues (R30, R31, R34) -/

def State.pushTail (s : State) (k : Level) (e : EntryNo) : State :=
  s.setQueue k (s.queue k ++ [e])

def State.pushHead (s : State) (k : Level) (e : EntryNo) : State :=
  s.setQueue k (e :: s.queue k)

/-- The entry is taken out from wherever it stands; the others keep their order (R34). -/
def State.dropQueue (s : State) (k : Level) (e : EntryNo) : State :=
  s.setQueue k ((s.queue k).erase e)

/-! ### Service stacks (R54) -/

/-- The entry leaves the stack from any position; the entries that stay keep their order. -/
def State.dropStack (s : State) (t : Taker) (e : EntryNo) : State :=
  s.setStack t ((s.stack t).erase e)

/-! ### Reports (R165) -/

/-- A condition row after one report: the flag is set, the count saturates at 255, and the culprit is
kept only where the count was 0. -/
def Condition.reported (c : Condition) (w : Culprit) : Condition :=
  { c with
    latched := true
    count := if c.count = 0xFF#8 then c.count else c.count + 1#8
    culprit := if c.count = 0#8 then some w else c.culprit }

/-- One report to one row (R165). -/
def State.report (s : State) (r : CondRow) (w : Culprit) : State :=
  s.setCond r ((s.cond r).reported w)

/-! ### Occurrences and lapses -/

/-- An occurrence for entry e (R10): discarded while clearing (R27), otherwise by the entry's state. -/
def State.occurrence (s : State) (e : EntryNo) : State :=
  if s.clearing then s
  else
    match s.entry e with
    | none => s
    | some b =>
      match b.phase with
      | .dormant => s
      | .armed =>
        (s.setEntry e
          (some { b with phase := .raised, reoffered := false, hits := bumpHits b.hits })).pushTail
          b.level e
      | .raised => s.setEntry e (some { b with hits := bumpHits b.hits })
      | .held v =>
        s.setEntry e
          (some { b with phase := .held { v with again := true }, hits := bumpHits b.hits })
      | .retiring _ => s

/-- A lapse for entry e (R11): discarded while clearing (R27), otherwise by the entry's state. -/
def State.lapse (s : State) (e : EntryNo) : State :=
  if s.clearing then s
  else
    match s.entry e with
    | none => s
    | some b =>
      match b.phase with
      | .raised => (s.dropQueue b.level e).setEntry e (some { b with phase := .armed })
      | .held v => s.setEntry e (some { b with phase := .held { v with again := false } })
      | .dormant => s
      | .armed => s
      | .retiring _ => s

/-! ### The end of a service -/

/-- The record after the actions of R15 that come before placement: the staged level is applied, and the
service fields go with the state that held them. `phase` is the state it is placed in. -/
def Entry.leave (b : Entry) (v : Service) (phase : Phase) : Entry :=
  { b with level := v.stagedLevel.getD b.level, phase := phase }

/-- DONE answered OK for the entry e on taker t's stack (R15, R16, R59; R18 if RETIRING). -/
def State.finish (s : State) (t : Taker) (e : EntryNo) : State :=
  let s' := s.dropStack t e
  match s.entry e with
  | none => s'
  | some b =>
    match b.phase with
    | .held v =>
      if v.stagedDormancy then
        s'.setEntry e (some { b.leave v .dormant with reoffered := false })
      else if v.again then
        (s'.setEntry e (some { b.leave v .raised with reoffered := false })).pushTail
          (v.stagedLevel.getD b.level) e
      else s'.setEntry e (some { b.leave v .armed with reoffered := false })
    | .retiring _ => s'.setEntry e none
    | .dormant => s'
    | .armed => s'
    | .raised => s'

/-- YIELD, withdrawal and TRESET return entry e of taker t's stack to waiting (R15, R17; R18 if
RETIRING): DORMANT if that is staged, otherwise RAISED at the head of its queue with reoffered set. -/
def State.giveBack (s : State) (t : Taker) (e : EntryNo) : State :=
  let s' := s.dropStack t e
  match s.entry e with
  | none => s'
  | some b =>
    match b.phase with
    | .held v =>
      if v.stagedDormancy then s'.setEntry e (some (b.leave v .dormant))
      else
        (s'.setEntry e (some { b.leave v .raised with reoffered := true })).pushHead
          (v.stagedLevel.getD b.level) e
    | .retiring _ => s'.setEntry e none
    | .dormant => s'
    | .armed => s'
    | .raised => s'

/-- Freeing (R19): a RAISED entry leaves its queue, a HELD or RETIRING one its holder's stack, and every
field but the state becomes absent. -/
def State.free (s : State) (e : EntryNo) : State :=
  match s.entry e with
  | none => s
  | some b =>
    match b.phase with
    | .dormant => s.setEntry e none
    | .armed => s.setEntry e none
    | .raised => (s.dropQueue b.level e).setEntry e none
    | .held v => (s.dropStack v.holder e).setEntry e none
    | .retiring v => (s.dropStack v.holder e).setEntry e none

/-- A number joins the tail of a withdrawn list; the oldest of four is dropped first (R66). -/
def appendWithdrawn (l : List EntryNo) (e : EntryNo) : List EntryNo :=
  (if l.length < Config.withdrawnLength then l else l.tail) ++ [e]

/-- A withdrawal of entry e from its holder t (R85). -/
def State.withdraw (s : State) (t : Taker) (e : EntryNo) : State :=
  ((s.setWithdrawn t (appendWithdrawn (s.withdrawnOf t) e)).giveBack t e).report .withdrawn
    (.entry e)

/-! ### The offer (R36 to R38) -/

/-- The level of the entry on top of taker t's stack, or 0 (R36). -/
def State.topLevel (s : State) (t : Taker) : Level :=
  match s.stack t with
  | [] => 0
  | e :: _ =>
    match s.entry e with
    | none => 0
    | some b => b.level

/-- The threshold of taker t (R36). -/
def State.threshold (s : State) (t : Taker) : Level := max (s.port t).floor (s.topLevel t)

/-- Whether taker t is in the eligible set of entry e. -/
def State.eligible (s : State) (t : Taker) (e : EntryNo) : Bool :=
  match s.entry e with
  | none => false
  | some b => b.eligible.getLsbD t.val

/-- The levels from the most urgent down (R38). -/
def levelsDown : List Level := [15, 14, 13, 12, 11, 10, 9, 8, 7, 6, 5, 4, 3, 2, 1]

/-- The walk for taker t (R38): levels from 15 down to the threshold plus 1, each queue from head to tail,
the first entry whose eligible set contains t. -/
def State.walk (s : State) (t : Taker) : Option EntryNo :=
  levelsDown.findSome? fun k =>
    if s.threshold t < k then (s.queue k).find? (s.eligible t) else none

/-- A claim answer (R37). -/
inductive ClaimAnswer where
  | offer (e : EntryNo)
  | empty
  | full
  | halted
  | clearing
  deriving DecidableEq, Repr

/-- The answer to a CLAIM or PEEK by taker t, by the first case of R37 that applies. -/
def State.claimAnswer (s : State) (t : Taker) : ClaimAnswer :=
  if s.clearing then .clearing
  else if !(s.port t).enabled then .halted
  else if Config.stackDepth ≤ (s.stack t).length then .full
  else
    match s.walk t with
    | some e => .offer e
    | none => .empty

/-- The table row of a limit class; class 0 has none (R76). -/
def limitRowOf (k : LimitClass) : Option (Fin 7) :=
  if h : k.val = 0 then none else some ⟨k.val - 1, by omega⟩

/-- The limit loaded at a claim (R80). -/
def State.loadLimit (s : State) (k : LimitClass) : Option RunningLimit :=
  match limitRowOf k with
  | none => none
  | some r => some { row := r, remaining := s.limits[r].duration, expired := false }

/-- The service a claim begins (R14, R80). -/
def State.newService (s : State) (t : Taker) (k : LimitClass) : Service :=
  { holder := t, expiries := 0, overdue := false, stagedLevel := none, stagedDormancy := false,
    again := false, limit := s.loadLimit k }

/-- The claim of entry e by taker t (R14, R40): the entry leaves its queue, becomes HELD on top of t's
stack with its limit loaded, and its number leaves t's withdrawn list. -/
def State.take (s : State) (t : Taker) (e : EntryNo) : State :=
  match s.entry e with
  | none => s
  | some b =>
    (((s.dropQueue b.level e).setEntry e
      (some { b with phase := .held (s.newService t b.limitClass) })).setStack t
        (e :: s.stack t)).setWithdrawn t ((s.withdrawnOf t).erase e)

/-! ### Expiries (R81 to R85) -/

/-- One tick on one running limit (R81): a count above 1 is reduced by 1; at 1 the record expires and its
expiry waits to be taken. -/
def RunningLimit.tick (l : RunningLimit) : RunningLimit :=
  if 1#16 < l.remaining then { l with remaining := l.remaining - 1#16 } else { l with expired := true }

/-- One tick on one entry. -/
def Entry.tick (b : Entry) : Entry :=
  match b.service with
  | none => b
  | some v => b.withService { v with limit := v.limit.map RunningLimit.tick }

/-- The directory with a function applied to every bound record. -/
def mapEntries (f : Entry → Entry) (v : Vector (Option Entry) 96) : Vector (Option Entry) 96 :=
  ⟨(v.toList.map (Option.map f)).toArray, by simp⟩

/-- One tick (R81): every running limit counts, and the prescaler's count starts again (R77). -/
def State.tickAll (s : State) : State :=
  { s with entries := mapEntries Entry.tick s.entries, prescaleCount := 0 }

/-- The service and limit of entry e whose expiry waits to be taken (R81). -/
def State.outstanding (s : State) (e : EntryNo) : Option (Entry × Service × RunningLimit) :=
  match s.entry e with
  | none => none
  | some b =>
    match b.service with
    | none => none
    | some v =>
      match v.limit with
      | none => none
      | some l => if l.expired then some (b, v, l) else none

/-- What a first expiry makes of the service (R83): overdue and one expiry; the limit stops under NOTE and
is loaded again from its row under RECLAIM. -/
def State.afterFirstExpiry (s : State) (v : Service) (l : RunningLimit) : Service :=
  { v with
    overdue := true
    expiries := 1
    limit :=
      match s.limits[l.row].policy with
      | .note => none
      | .reclaim => some { l with remaining := s.limits[l.row].duration, expired := false } }

/-- A first expiry taken outside clearing (R83). -/
def State.takeFirstExpiry (s : State) (e : EntryNo) (b : Entry) (v : Service) (l : RunningLimit) :
    State :=
  (s.setEntry e (some (b.withService (s.afterFirstExpiry v l)))).report .overdue (.entry e)

/-- A second expiry taken outside clearing (R84): RECLAIM withdraws, NOTE stops the limit. -/
def State.takeSecondExpiry (s : State) (e : EntryNo) (b : Entry) (v : Service) (l : RunningLimit) :
    State :=
  match s.limits[l.row].policy with
  | .reclaim => s.withdraw v.holder e
  | .note => s.setEntry e (some (b.withLimit none))

/-- An expiry taken while the directory is clearing is discarded (R27, R91). -/
def State.discardExpiry (s : State) (e : EntryNo) (b : Entry) (l : RunningLimit) : State :=
  s.setEntry e (some (b.withLimit (some { l with expired := false })))

/-! ### The command slot -/

/-- The command slot is BUSY (section 8.2). -/
def State.busy (s : State) : Bool :=
  match s.slot with
  | .idle => false
  | .sweep _ => true
  | .resetDirectory _ => true

/-- The code of the command in flight while BUSY, or of the last completed command while IDLE, 0 before
the first (R149, 10.2). -/
def State.commandShown (s : State) : CommandCode :=
  match s.slot with
  | .idle => s.lastCommand.getD 0#4
  | .sweep _ => 6#4
  | .resetDirectory _ => 13#4

/-- A GO or command-area write while BUSY: one report to COLLISION with the command in flight as culprit,
and nothing else (R148). -/
def State.collide (s : State) : State := s.report .collision (.command s.commandShown)

/-- A bus access: while RESETn is asserted a write is ignored (R172). -/
def State.access (s : State) (f : State → State) : State := if s.inReset then s else f s

end Sys2Proof.Machine
end

