-- ==== Sys2Proof/Machine/Flags.lean ====
section
/-! DEFINITION. The values the part derives from its state and holds nowhere: the alert lines, the done
request, the counts of SUMMARY, and the levels of the string pins. -/

namespace Sys2Proof.Machine

/-- TKALERTt is asserted if and only if a PEEK by taker t would return an offer (R45). -/
def State.tkalert (s : State) (t : Taker) : Bool :=
  match s.claimAnswer t with
  | .offer _ => true
  | .empty => false
  | .full => false
  | .halted => false
  | .clearing => false

/-- The done request of the management port (R150). -/
def State.doneRequest (s : State) : Bool := s.doneFlag && s.doneEnable

/-- MALERT (R170): some row's latched flag and alert enable are both set, or the done request is raised. -/
def State.malert (s : State) : Bool :=
  s.conditions.toList.any (fun c => c.latched && c.enabled) || s.doneRequest

/-! ### The counts of SUMMARY (R151) -/

/-- Whether an entry is FREE. -/
def isFree (o : Option Entry) : Bool := o.isNone

def isRaisedEntry (o : Option Entry) : Bool :=
  match o with
  | none => false
  | some b => b.isRaised

/-- Whether an entry is HELD or RETIRING. -/
def isInService (o : Option Entry) : Bool :=
  match o with
  | none => false
  | some b => b.service.isSome

def State.freeCount (s : State) : Nat := s.entries.toList.countP isFree

def State.raisedCount (s : State) : Nat := s.entries.toList.countP isRaisedEntry

def State.heldCount (s : State) : Nat := s.entries.toList.countP isInService

/-- The number of bound entries (R156). -/
def State.boundCount (s : State) : Nat := s.entries.toList.countP Option.isSome

/-! ### The wire (R93 to R95, R122) -/

/-- What a bit time of a cycle is for: a bit the part drives low or high, a MARK bit, a GAP bit, or none
of the cycle's. -/
inductive BitRole where
  | drivenLow
  | drivenHigh
  | markBit (j : Nat)
  | gapBit
  | outside
  deriving DecidableEq, Repr

/-- The bit times of a scan (R95): OPEN, CODE 0, 0, a MARK and a GAP bit for each slot, END. -/
def scanRole (i : Nat) : BitRole :=
  if i < 3 then .drivenLow
  else if i < 5 then .drivenHigh
  else if i < 53 then if (i - 5) % 2 = 0 then .markBit ((i - 5) / 2) else .gapBit
  else if i = 53 then .drivenLow
  else .outside

/-- The bit times of a roll call of slot k (R122): OPEN, CODE 1, 1, SLOT NUMBER most significant bit
first, a MARK and a GAP bit for each mark, END. -/
def rollCallRole (k : SlotNo) (i : Nat) : BitRole :=
  if i < 5 then .drivenLow
  else if i < 10 then if k.val.testBit (9 - i) then .drivenLow else .drivenHigh
  else if i < 26 then if (i - 10) % 2 = 0 then .markBit ((i - 10) / 2) else .gapBit
  else if i = 26 then .drivenLow
  else .outside

/-- Whether a sample read low in this bit time faults the cycle: a clash in a bit driven high, or a gap
fault (R96). -/
def BitRole.faultsLow : BitRole → Bool
  | .drivenHigh => true
  | .gapBit => true
  | .drivenLow => false
  | .markBit _ => false
  | .outside => false

/-- The judgement of a cycle's samples (R96, R124): true where it is a faulted cycle. -/
def faultedCycle {len : Nat} (role : Nat → BitRole) (samples : BitVec len) : Bool :=
  (List.range len).any fun i => (role i).faultsLow && samples.getLsbD i

/-- REFCLK periods of one bit time (R94). -/
def StringEngine.bitPeriods (g : StringEngine) : Nat := 2 * g.divisor.toNat

/-- The bit time the clock stands in, counted from the start of the present cycle or gap. -/
def StringEngine.bitIndex (g : StringEngine) : Nat := g.clock / g.bitPeriods

/-- The level of SKn (R93, R94): low for the first D periods of each bit time of a RUNNING string, high
otherwise, from the moment the string leaves RUNNING (log 16). -/
def StringEngine.skHigh (g : StringEngine) : Bool :=
  match g.state with
  | .running => decide (g.divisor.toNat ≤ g.clock % g.bitPeriods)
  | .off => true
  | .resting => true
  | .faulted => true

/-- Whether the part pulls SQn low (R93): in the bits of a cycle that it drives low, and in no other. -/
def StringEngine.sqPulled (g : StringEngine) : Bool :=
  match g.cycle with
  | none => false
  | some .scan => decide (scanRole g.bitIndex = .drivenLow)
  | some (.rollCall k) => decide (rollCallRole k g.bitIndex = .drivenLow)

end Sys2Proof.Machine
end

