-- ==== Sys2Proof/Machine/Bits.lean ====
section
/-! DEFINITION. Reading and building the bit fields of 32-bit words, numbered as spec/10 numbers them. -/

namespace Sys2Proof.Machine.Bits

/-- The value of the field of `len` bits whose lowest bit is `lo`. -/
def get (w : Word) (lo len : Nat) : Nat := (w.extractLsb' lo len).toNat

/-- One bit of a word. -/
def bit (w : Word) (i : Nat) : Bool := w.getLsbD i

/-- A word that holds `v` in the field whose lowest bit is `lo`, and 0 elsewhere. -/
def put (lo v : Nat) : Word := BitVec.ofNat 32 v <<< lo

/-- A flag as the value of a one-bit field. -/
def flag (b : Bool) : Nat := if b then 1 else 0

/-- The word made of several fields, each given as (lowest bit, value); unassigned bits are 0 (R172). -/
def pack : List (Nat × Nat) → Word
  | [] => 0#32
  | f :: fs => put f.1 f.2 ||| pack fs

/-- The entry number in position `i` of a list, or 7FH where the list is shorter (R72, R155). -/
def position (l : List EntryNo) (i : Nat) : Nat :=
  match l[i]? with
  | some e => e.val
  | none => Config.noEntry

/-- A list of at most four entry numbers in the STACK layout (10.3): the length in 31:29, and the numbers
from bit 0 up, seven bits each. -/
def packList (l : List EntryNo) : Word :=
  pack [(0, position l 0), (7, position l 1), (14, position l 2), (21, position l 3),
    (29, l.length)]

end Sys2Proof.Machine.Bits
end

