-- ==== Sys2Proof/Machine/Operands.lean ====
section
/-! DEFINITION. The operand forms: the checked fields of the taker window words (10.3), and the fields of
each command record as R173 and the tables of 10.5 place them, with the checks of field values that
make a command BADFIELD. A reader answers none where one of those checks fails. -/

namespace Sys2Proof.Machine

open Bits

/-! ### Taker window words (10.3, R51) -/

/-- The entry number written to DONE or YIELD, bits 7:0; none where it is answered RANGE. -/
def entryField (v : Word) : Option EntryNo := entryNo? (get v 0 8)

/-- The floor written to FLOOR, bits 7:0; none where it is answered RANGE. -/
def floorField (v : Word) : Option Level :=
  if get v 0 8 < 16 then some (Fin.ofNat 16 (get v 0 8)) else none

/-- The channel written to POST, bits 7:0; none where it is answered RANGE. -/
def channelField (v : Word) : Option Channel :=
  if get v 0 8 < 16 then some (Fin.ofNat 16 (get v 0 8)) else none

/-! ### Words of a command record (10.5) -/

/-- The command code, bits 3:0 of CMD0 (R173). -/
def State.commandCode (s : State) : CommandCode := (s.cmd[0]).extractLsb' 0 4

/-- The entry number in bits 6:0 of CMD1; none above 95 (R154, R157). -/
def recordEntry (s : State) : Option EntryNo := entryNo? (get s.cmd[1] 0 7)

def senseOf (b : Bool) : Sense := if b then .level else .edge

/-- The key of a key word: none for kind 2 or 3, string 3, or a slot above 23 (R20, R158, R173). The
fields of the kind not chosen are not checked. -/
def keyField (w : Word) : Option Key :=
  if get w 0 2 = 0 then
    if get w 4 2 < 3 ∧ get w 8 5 < 24 then
      some (.wire (Fin.ofNat 3 (get w 4 2)) (Fin.ofNat 24 (get w 8 5))
        (if bit w 19 then some (Fin.ofNat 8 (get w 16 3)) else none))
    else none
  else if get w 0 2 = 1 then some (.posted (Fin.ofNat 16 (get w 24 4)))
  else none

def levelField (w : Word) : Level := Fin.ofNat 16 (get w 0 4)

def eligibleField (w : Word) : TakerSet := w.extractLsb' 8 4

def limitClassField (w : Word) : LimitClass := Fin.ofNat 8 (get w 16 3)

def tagField (w : Word) : BitVec 16 := w.extractLsb' 0 16

def Key.isPosted : Key → Bool
  | .wire _ _ _ => false
  | .posted _ => true

/-- The fields of a BIND; the target is none for AUTO (R20). -/
structure BindRecord where
  target : Option EntryNo
  key : Key
  level : Level
  sense : Sense
  eligible : TakerSet
  tag : BitVec 16
  limitClass : LimitClass
  armed : Bool
  deriving DecidableEq, Repr

/-- The entry a BIND names: `some none` for AUTO, none for 96 to 127 without AUTO. -/
def bindTarget (w : Word) : Option (Option EntryNo) :=
  if bit w 7 then some none else (entryNo? (get w 0 7)).map some

/-- Check 1 of R20: the BIND record with every value in range, or none. -/
def bindRecord (s : State) : Option BindRecord :=
  match bindTarget s.cmd[1], keyField s.cmd[2] with
  | some target, some key =>
    if levelField s.cmd[3] = 0 ∨ eligibleField s.cmd[3] = 0#4 ∨
        (key.isPosted = true ∧ bit s.cmd[3] 4 = true) then none
    else
      some
        { target := target
          key := key
          level := levelField s.cmd[3]
          sense := senseOf (bit s.cmd[3] 4)
          eligible := eligibleField s.cmd[3]
          tag := tagField s.cmd[4]
          limitClass := limitClassField s.cmd[3]
          armed := bit s.cmd[3] 24 }
  | some _, none => none
  | none, _ => none

/-- The fields of an AMEND that its change mask names (R22). -/
structure AmendRecord where
  entry : EntryNo
  level : Option Level
  sense : Option Sense
  eligible : Option TakerSet
  tag : Option (BitVec 16)
  limitClass : Option LimitClass
  enable : Option Bool
  deriving DecidableEq, Repr

/-- A value where a bit of the change mask names it. -/
def named {α : Type} (b : Bool) (v : α) : Option α := if b then some v else none

/-- The AMEND record, or none where the number is above 95, the mask names a key field (bits 8 to 12), or
a named level or eligible set is out of range (R22, R154). The check of sense LEVEL on a POSTED entry
needs the entry and stands with AMEND. -/
def amendRecord (s : State) : Option AmendRecord :=
  match recordEntry s with
  | none => none
  | some e =>
    if get s.cmd[2] 8 5 ≠ 0 ∨ (bit s.cmd[2] 0 = true ∧ levelField s.cmd[3] = 0) ∨
        (bit s.cmd[2] 2 = true ∧ eligibleField s.cmd[3] = 0#4) then none
    else
      some
        { entry := e
          level := named (bit s.cmd[2] 0) (levelField s.cmd[3])
          sense := named (bit s.cmd[2] 1) (senseOf (bit s.cmd[3] 4))
          eligible := named (bit s.cmd[2] 2) (eligibleField s.cmd[3])
          tag := named (bit s.cmd[2] 3) (tagField s.cmd[4])
          limitClass := named (bit s.cmd[2] 4) (limitClassField s.cmd[3])
          enable := named (bit s.cmd[2] 5) (bit s.cmd[3] 24) }

/-- The source filter of CMD4, or none where it is none of the six or a field it uses is out of range
(R159). -/
def filterField (w : Word) : Option SourceFilter :=
  if get w 0 3 = 0 then some .any
  else if get w 0 3 = 1 then some .wire
  else if get w 0 3 = 2 then
    if get w 8 2 < 3 then some (.wireString (Fin.ofNat 3 (get w 8 2))) else none
  else if get w 0 3 = 3 then
    if get w 8 2 < 3 ∧ get w 16 5 < 24 then
      some (.wireSlot (Fin.ofNat 3 (get w 8 2)) (Fin.ofNat 24 (get w 16 5)))
    else none
  else if get w 0 3 = 4 then some .posted
  else if get w 0 3 = 5 then some (.postedChannel (Fin.ofNat 16 (get w 24 4)))
  else none

/-- The SWEEP a record asks for, at its cursor with an empty page, or none where a check of R159 fails. -/
def sweepRecord (s : State) : Option SweepRun :=
  match recordEntry s, filterField s.cmd[4] with
  | some e, some f =>
    if (s.cmd[2]).extractLsb' 0 6 = 0#6 ∨ get s.cmd[3] 0 4 = 0 ∨
        get s.cmd[3] 8 4 < get s.cmd[3] 0 4 then none
    else
      some
        { states := (s.cmd[2]).extractLsb' 0 6
          low := Fin.ofNat 16 (get s.cmd[3] 0 4)
          high := Fin.ofNat 16 (get s.cmd[3] 8 4)
          filter := f
          next := e
          page := [] }
  | some _, none => none
  | none, _ => none

/-- The channel of a management POST or a PERMIT, bits 3:0 of CMD1. -/
def recordChannel (s : State) : Channel := Fin.ofNat 16 (get s.cmd[1] 0 4)

/-- The taker of a TAKER, bits 2:0 of CMD1; none above 3 (R155). -/
def recordTaker (s : State) : Option Taker :=
  if get s.cmd[1] 0 3 < 4 then some (Fin.ofNat 4 (get s.cmd[1] 0 3)) else none

/-- The action code of a TAKER, bits 9:8 of CMD1: 0 NONE, 1 ENABLE, 2 HALT. -/
def takerAction (s : State) : Nat := get s.cmd[1] 8 2

/-- The string of a STRING, bits 1:0 of CMD1; none for 3 (R104). -/
def recordString (s : State) : Option StringNo :=
  if get s.cmd[1] 0 2 < 3 then some (Fin.ofNat 3 (get s.cmd[1] 0 2)) else none

/-- The action code of a STRING, bits 6:4 of CMD1: 0 START, 1 STOP, 2 MODE, 3 DIVISOR. -/
def stringAction (s : State) : Nat := get s.cmd[1] 4 3

/-- The mode a MODE names, bits 1:0 of CMD2; none for 2 and 3 (R104). -/
def modeField (w : Word) : Option StringMode :=
  if get w 0 2 = 0 then some .continuous else if get w 0 2 = 1 then some .onDemand else none

/-- The divisor a DIVISOR names, bits 10:0 of CMD2; none outside 4 to 1023 (R103). -/
def divisorField (w : Word) : Option (BitVec 10) :=
  if Config.divisorMin ≤ get w 0 11 ∧ get w 0 11 ≤ Config.divisorMax then
    some (w.extractLsb' 0 10)
  else none

/-- The policy in bits 17:16 of a LIMIT's CMD2; none for 2 and 3 (R78). -/
def policyField (w : Word) : Option Policy :=
  if get w 16 2 = 0 then some .note else if get w 16 2 = 1 then some .reclaim else none

/-- The row and its new contents that a LIMIT names: `some none` where it names no row, none where the
row, duration or policy is out of range (R78). Fields of a row not named are not checked. -/
def limitRowField (s : State) : Option (Option (Fin 7 × LimitRow)) :=
  if bit s.cmd[1] 8 then
    match limitRowOf (Fin.ofNat 8 (get s.cmd[1] 0 3)), policyField s.cmd[2] with
    | some r, some p =>
      if get s.cmd[2] 0 16 = 0 then none
      else some (some (r, { duration := (s.cmd[2]).extractLsb' 0 16, policy := p }))
    | some _, none => none
    | none, _ => none
  else some none

/-- The prescaler a LIMIT names: `some none` where it names none, none where it is below 16 (R78). -/
def prescalerField (s : State) : Option (Option (BitVec 16)) :=
  if bit s.cmd[1] 9 then
    if get s.cmd[3] 0 16 < Config.prescalerMin then none
    else some (some ((s.cmd[3]).extractLsb' 0 16))
  else some none

/-- The fields of a CONDITION (R167): the read set, the acknowledge set, and the new enable set, none for
KEEP. -/
structure ConditionRecord where
  read : BitVec 9
  acknowledge : BitVec 9
  enables : Option (BitVec 9)
  deriving DecidableEq, Repr

/-- A set of rows from a 16-bit field; none where a place above row 8 is set (R167). -/
def rowSetField (w : Word) : Option (BitVec 9) :=
  if get w 9 7 = 0 then some (w.extractLsb' 0 9) else none

/-- The enable field of CMD3: mode 0 is KEEP, mode 1 a set, 2 and 3 neither (R167, 10.5). -/
def enableField (w : Word) : Option (Option (BitVec 9)) :=
  if get w 16 2 = 0 then some none
  else if get w 16 2 = 1 then (rowSetField w).map some
  else none

/-- The CONDITION record, or none where a check of R167 fails. -/
def conditionRecord (s : State) : Option ConditionRecord :=
  match rowSetField s.cmd[1], rowSetField s.cmd[2], enableField s.cmd[3] with
  | some r, some a, some n => some { read := r, acknowledge := a, enables := n }
  | some _, some _, none => none
  | some _, none, _ => none
  | none, _, _ => none

end Sys2Proof.Machine
end

