-- ==== Sys2Proof/Machine/Layouts.lean ====
section
/-! DEFINITION. The layouts of spec/10: the codes of 10.2, the words software reads (10.3, 10.4), the
words of the result records (10.6 to 10.8, R174), and the value a read of each bus address returns. -/

namespace Sys2Proof.Machine

open Bits

/-! ### Codes (10.2) -/

def Phase.code : Phase → Nat
  | .dormant => 1
  | .armed => 2
  | .raised => 3
  | .held _ => 4
  | .retiring _ => 5

/-- The state code of an entry; FREE is 0. -/
def stateCode : Option Entry → Nat
  | none => 0
  | some b => b.phase.code

def ResultCode.code : ResultCode → Nat
  | .ok => 0
  | .staged => 1
  | .dropped => 2
  | .deferred => 3
  | .taken => 4
  | .noRoom => 5
  | .keyClash => 6
  | .noEntry => 7
  | .noChannel => 8
  | .badState => 9
  | .badField => 10

def Answer.code : Answer → Nat
  | .ok => 0
  | .late => 1
  | .order => 2
  | .notHeld => 3
  | .denied => 4
  | .noChannel => 5
  | .range => 6

def Sense.code : Sense → Nat
  | .edge => 0
  | .level => 1

def Policy.code : Policy → Nat
  | .note => 0
  | .reclaim => 1

def StringState.code : StringState → Nat
  | .off => 0
  | .running => 1
  | .resting => 2
  | .faulted => 3

def StringMode.code : StringMode → Nat
  | .continuous => 0
  | .onDemand => 1

/-! ### Taker window words (10.3) -/

/-- The claim answer word. The fields of a NONE answer are 0 (R37). -/
def State.claimWord (s : State) (a : ClaimAnswer) : Word :=
  match a with
  | .offer e =>
    match s.entry e with
    | none => 0#32
    | some b =>
      pack [(31, 1), (27, flag b.reoffered), (20, e.val), (16, b.level.val), (0, b.tag.toNat)]
  | .empty => 0#32
  | .full => put 28 1
  | .halted => put 28 2
  | .clearing => put 28 3

/-- The STACK word (R72): positions bottom first. -/
def State.stackWord (s : State) (t : Taker) : Word := packList (s.stack t).reverse

/-- The ANSWER word (R73). -/
def State.answerWord (s : State) (t : Taker) : Word :=
  pack [(0, (s.port t).answer.code), (8, (s.withdrawnOf t).length)]

/-! ### Management window words (10.4) -/

/-- The MSTAT word (R149). -/
def State.mstatWord (s : State) : Word :=
  pack [(0, flag s.busy), (1, flag s.doneFlag), (8, s.commandShown.toNat), (16, s.resultCode.code)]

/-- The SUMMARY word (R151). -/
def State.summaryWord (s : State) : Word :=
  pack [(0, s.freeCount), (8, s.raisedCount), (16, s.heldCount), (31, flag s.clearing)]

/-- The MCTL word (R150). -/
def State.mctlWord (s : State) : Word := put 0 (flag s.doneEnable)

/-- The bits of a field, given as (highest bit, lowest bit), set. -/
def fieldBits (f : Nat × Nat) : Word := BitVec.ofNat 32 (2 ^ (f.1 + 1) - 2 ^ f.2)

/-- The bits of several fields, set. -/
def fieldsBits : List (Nat × Nat) → Word
  | [] => 0#32
  | f :: fs => fieldBits f ||| fieldsBits fs

/-- The fields that the layouts assign in CMD0 to CMD7, for all commands together (R173, the tables of 10.5).
CMD0 holds the command code, and no command uses CMD5 to CMD7. That a bit assigned for any command
counts as assigned, whatever the record names, is the model's choice (log 17). -/
def cmdLayout : Vector (List (Nat × Nat)) 8 :=
  #v[[(3, 0)],
    -- BIND, AMEND and the other entry numbers, PERMIT, TAKER, STRING, LIMIT, CONDITION
    [(7, 0), (6, 0), (3, 0), (8, 8), (2, 0), (9, 8), (1, 0), (6, 4), (15, 0)],
    -- the key word, the change mask, SWEEP, PERMIT, STRING, LIMIT, CONDITION
    [(1, 0), (5, 4), (12, 8), (18, 16), (19, 19), (27, 24), (5, 0), (31, 0), (10, 0), (15, 0),
      (17, 16)],
    -- the service word, SWEEP, LIMIT, CONDITION
    [(3, 0), (4, 4), (11, 8), (18, 16), (24, 24), (15, 0), (17, 16)],
    -- the tag, SWEEP
    [(15, 0), (2, 0), (9, 8), (20, 16), (27, 24)],
    [], [], []]

/-- The value that a read of CMDk returns: the word last stored (R146), with the bits that the layouts do not
assign reading as 0 (R172). -/
def State.cmdWord (s : State) (k : Fin 8) : Word := s.cmd[k] &&& fieldsBits cmdLayout[k]

/-- The value that a read of the word would return, as the state stands (R49, R144, R172). While RESETn
is asserted a read returns 0. -/
def State.readWord (s : State) (a : BitVec 7) : Word :=
  if s.inReset then 0#32
  else
    match wordAt a with
    | .taker t .claim => s.claimWord (s.claimAnswer t)
    | .taker t .peek => s.claimWord (s.claimAnswer t)
    | .taker t .done => (s.port t).lastDone
    | .taker t .yield => (s.port t).lastYield
    | .taker t .floor => put 0 (s.port t).floor.val
    | .taker t .post => (s.port t).lastPost
    | .taker t .treset => (s.port t).lastTreset
    | .taker t .stack => s.stackWord t
    | .taker t .answer => s.answerWord t
    | .taker _ .unused => 0#32
    | .cmd k => s.cmdWord k
    | .go => 0#32
    | .mstat => s.mstatWord
    | .summary => s.summaryWord
    | .mctl => s.mctlWord
    | .mgmtUnused => 0#32
    | .res k => s.res[k]
    | .unmapped => 0#32

/-! ### Result records (10.6, R174) -/

/-- RES1 of a BIND or a management POST that carries an entry number. -/
def boundEntryWord (e : EntryNo) : Word := pack [(0, e.val), (31, 1)]

/-- RES1 of AMEND, RETIRE and FIND: the entry number and its state after the command. -/
def State.entryStateWord (s : State) (e : EntryNo) : Word :=
  pack [(0, e.val), (8, stateCode (s.entry e))]

/-- RES1 of a RETIRE answered DEFERRED, which also carries the holder (R154). -/
def State.deferredWord (s : State) (e : EntryNo) (holder : Taker) : Word :=
  pack [(0, e.val), (8, stateCode (s.entry e)), (12, holder.val), (15, 1)]

/-- The key in the key word layout without the kind bits (10.7). -/
def keyWord : Key → Word
  | .wire n k none => pack [(4, n.val), (8, k.val)]
  | .wire n k (some m) => pack [(4, n.val), (8, k.val), (16, m.val), (19, 1)]
  | .posted c => put 24 c.val

/-- RES3 of a LOOKUP. The staged level has a present bit; the flags outside service are 0. -/
def serviceWord (b : Entry) : Word :=
  pack [(0, b.level.val), (4, b.sense.code), (8, b.eligible.toNat), (16, b.limitClass.val),
      (28, flag b.reoffered)] |||
    match b.service with
    | none => 0#32
    | some v =>
      pack [(25, flag v.stagedDormancy), (26, flag v.again), (27, flag v.overdue)] |||
        match v.stagedLevel with
        | none => 0#32
        | some k => pack [(20, k.val), (24, 1)]

/-- RES5 of a LOOKUP: remaining and holder with their present bits, and expiries. -/
def limitWord (b : Entry) : Word :=
  match b.service with
  | none => 0#32
  | some v =>
    pack [(17, v.expiries.val), (20, v.holder.val), (22, 1)] |||
      match v.limit with
      | none => 0#32
      | some l => pack [(0, l.remaining.toNat), (16, 1)]

/-- RES1 to RES5 of a LOOKUP of a bound entry (10.7). -/
def lookupWords (e : EntryNo) (b : Entry) : List Word :=
  [pack [(0, e.val), (8, b.phase.code), (12, flag b.key.isPosted)], keyWord b.key, serviceWord b,
    pack [(0, b.tag.toNat), (16, b.hits.toNat)], limitWord b]

/-- RES1 to RES13 of a SWEEP page; the next cursor is none for END (R161). -/
def sweepWords (page : List EntryNo) (next : Option EntryNo) : List Word :=
  (match next with
    | none => pack [(0, page.length), (15, 1)]
    | some c => pack [(0, page.length), (8, c.val)]) ::
    page.map fun e => put 0 e.val

/-- RES1 or RES2 of a PERMIT: eight masks, four bits each, from channel `base` on. -/
def State.masksWord (s : State) (base : Nat) : Word :=
  pack ((List.finRange 8).map fun j => (4 * j.val, (s.masks[Fin.ofNat 16 (base + j.val)]).toNat))

/-- RES1 to RES3 of a TAKER: the taker's view (R155). -/
def State.takerView (s : State) (t : Taker) : List Word :=
  [pack [(0, flag (s.port t).enabled), (8, (s.port t).floor.val)], s.stackWord t,
    packList (s.withdrawnOf t)]

/-- RES1 to RES3 of a STRING: the string's view (R104). -/
def State.stringView (s : State) (n : StringNo) : List Word :=
  let g := s.string n
  [pack [(0, g.state.code), (4, g.mode.code), (5, flag g.pendingMode.isSome),
      (6, (g.pendingMode.map StringMode.code).getD 0), (7, flag g.stopPending), (8, g.faults.val),
      (16, g.rollCalls.length)],
    put 0 g.divisor.toNat, put 0 g.history.toNat]

/-- RES1 to RES8 of a LIMIT: the seven rows and the prescaler. -/
def State.limitWords (s : State) : List Word :=
  (s.limits.toList.map fun r => pack [(0, r.duration.toNat), (16, r.policy.code)]) ++
    [put 0 s.prescaler.toNat]

/-- The culprit kind and value of a condition row (10.8). -/
def Culprit.kindValue : Culprit → Nat × Word
  | .entry e => (1, put 0 e.val)
  | .slot n k => (2, pack [(0, n.val), (4, k.val)])
  | .mark n k m => (3, pack [(0, n.val), (4, k.val), (12, m.val)])
  | .channel c => (4, put 0 c.val)
  | .taker t => (5, put 0 t.val)
  | .takerChannel t c => (6, pack [(0, t.val), (4, c.val)])
  | .command c => (7, put 0 c.toNat)
  | .string n => (8, put 0 n.val)

/-- The word of a condition row that a CONDITION has read (10.8). -/
def Condition.word (c : Condition) : Word :=
  pack [(31, 1), (30, flag c.latched), (29, flag c.enabled), (16, c.count.toNat)] |||
    match c.culprit with
    | none => 0#32
    | some w => put 25 w.kindValue.1 ||| w.kindValue.2

/-! ### Completion (R147) -/

/-- RES0 of a command: its code in bits 3:0 and its result code in bits 11:8 (R174). -/
def headWord (c : CommandCode) (r : ResultCode) : Word := pack [(0, c.toNat), (8, r.code)]

/-- The completion of the command with code c and result r: RES0 to RES15 are written whole, with `words`
from RES1 on and 0 in every word they do not reach; the slot becomes IDLE and the done flag is set
(R147, R174). -/
def State.complete (s : State) (c : CommandCode) (r : ResultCode) (words : List Word) : State :=
  { s with
    res := Vector.ofFn fun i : Fin 16 => (headWord c r :: words).getD i.val 0#32
    slot := .idle
    lastCommand := some c
    resultCode := r
    doneFlag := true }

end Sys2Proof.Machine
end

