-- ==== Sys2Proof/Machine/Clearing.lean ====
section
/-! DEFINITION. RESET DIRECTORY: its start, the freeing of each entry, and its completion (R27, R28, R156). -/

namespace Sys2Proof.Machine

/-- RESET DIRECTORY as the directory controller takes it (R156): the directory is clearing and the slot
BUSY; the number of bound entries is kept for the result; GO has cleared the done flag (R146). -/
def State.runResetDirectory (s : State) : State :=
  { s with slot := .resetDirectory s.boundCount, doneFlag := false }

/-- The next entry to free: the lowest-numbered entry that is not FREE (R27). -/
def State.nextToFree (s : State) : Option EntryNo :=
  allEntries.find? fun e => (s.entry e).isSome

/-- CLEARING_FREE (R27): while the directory is clearing, the next entry in ascending number is freed.
Outside clearing, or with no entry left, nothing happens. -/
def execClearingFree (s : State) : Host.Outcome State Fault Refusal :=
  match s.slot, s.nextToFree with
  | .resetDirectory _, some e => .next (s.free e)
  | .resetDirectory _, none => .next s
  | .idle, _ => .next s
  | .sweep _, _ => .next s

/-- A string engine at the completion of RESET DIRECTORY: the roll-call queue is emptied, the slot history
and mark histories are cleared, and the rest is kept (R28, R99). -/
def StringEngine.cleared (g : StringEngine) : StringEngine :=
  { g with rollCalls := [], history := 0#24, marks := Vector.replicate 24 0#8 }

/-- The state the completion of RESET DIRECTORY brings about, before the port completes it (R28). -/
def State.clearedLists (s : State) : State :=
  { s with
    queues := Vector.replicate 15 []
    serviceStacks := Vector.replicate 4 []
    withdrawn := Vector.replicate 4 []
    strings := #v[s.strings[0].cleared, s.strings[1].cleared, s.strings[2].cleared] }

/-- RESET_DIRECTORY_COMPLETION (R28), when the last entry has been freed; until then, or with no RESET
DIRECTORY in flight, nothing happens. The result carries the number bound at the start (R156). -/
def execResetDirectoryCompletion (s : State) : Host.Outcome State Fault Refusal :=
  match s.slot, s.nextToFree with
  | .resetDirectory bound, none =>
    .next (s.clearedLists.complete 13#4 .ok [Bits.put 0 bound])
  | .resetDirectory _, some _ => .next s
  | .idle, _ => .next s
  | .sweep _, _ => .next s

end Sys2Proof.Machine
end

