-- ==== Sys2Proof/Machine/StringCommands.lean ====
section
/-! DEFINITION. The STRING command by its action: START, STOP, MODE, DIVISOR, and an action that is none of
them (R100 to R104). -/

namespace Sys2Proof.Machine

/-! ### Changes of a string's state -/

/-- The clock starts and a gap begins (R100, R102, R107). -/
def StringEngine.beginGap (g : StringEngine) : StringEngine :=
  { g with state := .running, cycle := none, clock := 0 }

/-- The string goes OFF (R101): the clock stops, the roll-call queue is emptied, the histories are cleared,
and the pending stop and pending mode are discharged. The fault count and the divisor are kept. In a gap,
SKn is high at once, wherever in a bit time the STOP falls: the model's choice (log 16). -/
def StringEngine.goOff (g : StringEngine) : StringEngine :=
  { g with
    state := .off
    mode := g.pendingMode.getD g.mode
    pendingMode := none
    stopPending := false
    rollCalls := []
    history := 0#24
    marks := Vector.replicate 24 0#8
    cycle := none
    clock := 0 }

/-! ### The four actions on an engine -/

/-- START (R100). -/
def StringEngine.start (g : StringEngine) : StringEngine × ResultCode :=
  match g.state with
  | .off =>
    ({ g with faults := 0, history := 0#24, marks := Vector.replicate 24 0#8 }.beginGap, .ok)
  | .faulted =>
    ({ g with faults := 0, history := 0#24, marks := Vector.replicate 24 0#8 }.beginGap, .ok)
  | .running => (g, .badState)
  | .resting => (g, .badState)

/-- STOP (R101); its result is OK in every state. -/
def StringEngine.stop (g : StringEngine) : StringEngine :=
  match g.state with
  | .off => g
  | .resting => g.goOff
  | .faulted => g.goOff
  | .running =>
    match g.cycle with
    | none => g.goOff
    | some _ => { g with stopPending := true }

/-- MODE (R102); its result is OK in every state. With a cycle in flight the mode becomes pending, but a
MODE naming the mode in force with none pending changes nothing. -/
def StringEngine.setMode (g : StringEngine) (m : StringMode) : StringEngine :=
  match g.state with
  | .off => { g with mode := m }
  | .faulted => { g with mode := m }
  | .resting =>
    match m with
    | .continuous => { g with mode := .continuous }.beginGap
    | .onDemand => g
  | .running =>
    match g.cycle with
    | none => { g with mode := m }
    | some _ => if m = g.mode ∧ g.pendingMode = none then g else { g with pendingMode := some m }

/-- DIVISOR with a value in range (R103): taken in OFF alone. -/
def StringEngine.setDivisor (g : StringEngine) (d : BitVec 10) : StringEngine × ResultCode :=
  match g.state with
  | .off => ({ g with divisor := d }, .ok)
  | .running => (g, .badState)
  | .resting => (g, .badState)
  | .faulted => (g, .badState)

/-! ### The command -/

/-- The completion of a STRING for string n, with the view as it stands after it (R104). -/
def State.completeString (s : State) (n : StringNo) (r : ResultCode) : State :=
  s.complete 10#4 r (s.stringView n)

/-- STRING with action START. -/
def State.runStart (s : State) : State :=
  match recordString s with
  | none => s.complete 10#4 .badField []
  | some n => (s.setString n (s.string n).start.1).completeString n (s.string n).start.2

/-- STRING with action STOP. -/
def State.runStop (s : State) : State :=
  match recordString s with
  | none => s.complete 10#4 .badField []
  | some n => (s.setString n (s.string n).stop).completeString n .ok

/-- STRING with action MODE. -/
def State.runMode (s : State) : State :=
  match recordString s with
  | none => s.complete 10#4 .badField []
  | some n =>
    match modeField s.cmd[2] with
    | none => s.completeString n .badField
    | some m => (s.setString n ((s.string n).setMode m)).completeString n .ok

/-- STRING with action DIVISOR: the value is checked first, the state next (R103). -/
def State.runDivisor (s : State) : State :=
  match recordString s with
  | none => s.complete 10#4 .badField []
  | some n =>
    match divisorField s.cmd[2] with
    | none => s.completeString n .badField
    | some d =>
      (s.setString n ((s.string n).setDivisor d).1).completeString n ((s.string n).setDivisor d).2

/-- STRING with an action that is none of the four: BADFIELD, and nothing changes (R104). -/
def State.runStringBadAction (s : State) : State :=
  match recordString s with
  | none => s.complete 10#4 .badField []
  | some n => s.completeString n .badField

end Sys2Proof.Machine
end

