-- ==== Sys2Proof/Machine/Cycles.lean ====
section
/-! DEFINITION. The cycles of the request strings: the choice of the next cycle, the end events of scans
and roll calls, and the wake hold (spec/05, spec/06). -/

namespace Sys2Proof.Machine

/-! ### What the samples say -/

/-- The bit vector whose bit i is `f i`. -/
def bitsOf : (n : Nat) → (Nat → Bool) → BitVec n
  | 0, _ => 0#0
  | n + 1, f => BitVec.cons (f n) (bitsOf n f)

/-- Slot k is active in a scan: its MARK bit, bit time 5 + 2k, was sampled low (R95). -/
def slotActive (samples : BitVec 54) (k : Nat) : Bool := samples.getLsbD (5 + 2 * k)

/-- The slot samples of a scan, as the slot history takes them (R117). -/
def scanActivity (samples : BitVec 54) : BitVec 24 := bitsOf 24 (slotActive samples)

/-- Mark m answered a roll call: its MARK bit, bit time 10 + 2m, was sampled low (R122). -/
def markAnswered (samples : BitVec 27) (m : Nat) : Bool := samples.getLsbD (10 + 2 * m)

/-- The marks that answered, as the mark history takes them (R127). -/
def answeredMarks (samples : BitVec 27) : BitVec 8 := bitsOf 8 (markAnswered samples)

/-- A scan is faulted by a clash at CODE or a gap fault (R96). -/
def scanFaulted (samples : BitVec 54) : Bool := faultedCycle scanRole samples

/-- A roll call of slot k is faulted by a clash in its SLOT NUMBER or a gap fault (R124). -/
def rollCallFaulted (k : SlotNo) (samples : BitVec 27) : Bool := faultedCycle (rollCallRole k) samples

/-! ### Small changes of an engine -/

/-- The mark history of slot k replaced. -/
def StringEngine.setMarks (g : StringEngine) (k : SlotNo) (m : BitVec 8) : StringEngine :=
  { g with marks := g.marks.set k.val m k.isLt }

/-- A slot joins the tail of the roll-call queue unless it is in it (R114). -/
def StringEngine.requestRollCall (g : StringEngine) (k : SlotNo) : StringEngine :=
  if k ∈ g.rollCalls then g else { g with rollCalls := g.rollCalls ++ [k] }

/-- The slot of a roll call leaves the head of the queue, if it is still there (R125). -/
def StringEngine.dropRollCall (g : StringEngine) (k : SlotNo) : StringEngine :=
  if g.rollCalls.head? = some k then { g with rollCalls := g.rollCalls.tail } else g

/-- A faulted cycle adds 1 to the consecutive-fault count, which goes no further than 3 (R109). -/
def bumpFaults (c : Fin 4) : Fin 4 := if c = 3 then 3 else c + 1

/-- The string goes FAULTED (R110): the clock stops and the roll-call queue is emptied; the histories, the
fault count, the mode and D are kept. -/
def StringEngine.goFaulted (g : StringEngine) : StringEngine :=
  { g with state := .faulted, rollCalls := [], cycle := none, clock := 0 }

/-- The string goes RESTING (R106): the clock stops. -/
def StringEngine.goResting (g : StringEngine) : StringEngine :=
  { g with state := .resting, cycle := none, clock := 0 }

/-- What follows a cycle of `len` bit times (R98): the pending mode becomes the mode, and the first row
that applies is taken. `quiet` says that the cycle was a good scan with no active slot. -/
def StringEngine.afterCycle (g : StringEngine) (quiet : Bool) (len : Nat) : StringEngine :=
  let g' := { g with mode := g.pendingMode.getD g.mode, pendingMode := none, cycle := none }
  if g'.stopPending then g'.goOff
  else if g'.faults = 3 then g'.goFaulted
  else if g'.mode = .onDemand ∧ quiet = true ∧ g'.rollCalls = [] then g'.goResting
  else { g' with clock := g.clock - len * g.bitPeriods }

/-- The engine of string n with a function applied. -/
def State.updateString (s : State) (n : StringNo) (f : StringEngine → StringEngine) : State :=
  s.setString n (f (s.string n))

/-! ### The choice of the next cycle (R121) -/

/-- The roll-call queue and mark histories after head slots that no bound marked entry names are dropped;
the mark history of a dropped slot is cleared. -/
def State.dropHeads (s : State) (n : StringNo) :
    List SlotNo → Vector (BitVec 8) 24 → List SlotNo × Vector (BitVec 8) 24
  | [], marks => ([], marks)
  | k :: ks, marks =>
    if (s.markedAt n k).isEmpty then s.dropHeads n ks (marks.set k.val 0#8 k.isLt)
    else (k :: ks, marks)

/-- The kind of the next cycle: a roll call of the head slot, or a scan when the queue is empty (R98). -/
def nextCycle : List SlotNo → Cycle
  | [] => .scan
  | k :: _ => .rollCall k

/-- The engine as its next cycle's OPEN begins. -/
def State.chooseCycle (s : State) (n : StringNo) : StringEngine :=
  let g := s.string n
  let d := s.dropHeads n g.rollCalls g.marks
  { g with rollCalls := d.1, marks := d.2, cycle := some (nextCycle d.1), clock := 0 }

/-- NEXT_CYCLE_CHOICE (R121), on a RUNNING string with no cycle in flight; otherwise there is no such
boundary and nothing happens. -/
def execNextCycleChoice (n : StringNo) (s : State) : Host.Outcome State Fault Refusal :=
  if (s.string n).state = .running ∧ (s.string n).cycle = none then
    .next (s.setString n (s.chooseCycle n))
  else .next s

/-! ### The end event of a scan (R97, R108, R111 to R117) -/

/-- The sense of a bound entry. -/
def State.senseAt (s : State) (e : EntryNo) : Sense :=
  match s.entry e with
  | none => .edge
  | some b => b.sense

/-- A lapse for a LEVEL entry; no finding for an EDGE one (R113, R115, R129). -/
def State.lapseIfLevel (s : State) (e : EntryNo) : State :=
  match s.senseAt e with
  | .edge => s
  | .level => s.lapse e

/-- The finding for an unmarked entry: EDGE gives an occurrence for an active slot whose history is
inactive (R112), LEVEL an occurrence for an active slot and a lapse for an inactive one (R113). -/
def State.scanUnmarked (s : State) (active was : Bool) (e : EntryNo) : State :=
  match s.senseAt e with
  | .edge => if active && !was then s.occurrence e else s
  | .level => if active then s.occurrence e else s.lapse e

/-- The rule for slot k by the entries that name it (R111): one unmarked (R112, R113), marked ones (R114,
R115), or none (R116). -/
def State.scanSlotFinding (s : State) (n : StringNo) (k : SlotNo) (active was : Bool) : State :=
  match s.findKey (.wire n k none) with
  | some e => s.scanUnmarked active was e
  | none =>
    match s.markedAt n k with
    | [] => if active && !was then s.report .stray (.slot n k) else s
    | e :: es =>
      if active then s.updateString n (fun g => g.requestRollCall k)
      else (e :: es).foldl State.lapseIfLevel s

/-- One slot of a good scan. The mark history of an inactive slot is cleared, whatever names it (R115). -/
def State.scanSlot (s : State) (n : StringNo) (samples : BitVec 54) (k : SlotNo) : State :=
  let s' := s.scanSlotFinding n k (slotActive samples k.val) ((s.string n).history.getLsbD k.val)
  if slotActive samples k.val then s' else s'.updateString n (fun g => g.setMarks k 0#8)

/-- The findings of a good scan, slot by slot in ascending order, against the directory as it stands
(R111); then the slot history takes the samples (R117) and the fault count is 0 (R109). -/
def State.goodScan (s : State) (n : StringNo) (samples : BitVec 54) : State :=
  ((List.finRange 24).foldl (fun s k => s.scanSlot n samples k) s).updateString n
    (fun g => { g with history := scanActivity samples, faults := 0 })

/-- A faulted cycle (R108, R109, R126): the fault count goes up by 1, and one report is made to STRING
FAULT when it reaches 3. -/
def State.faultedEnd (s : State) (n : StringNo) : State :=
  let s' := s.updateString n (fun g => { g with faults := bumpFaults g.faults })
  if bumpFaults (s.string n).faults = 3 then s'.report .stringFault (.string n) else s'

/-- The end event of a scan (R97): the finding of a good scan or the fault, then what follows. -/
def State.endScan (s : State) (n : StringNo) (samples : BitVec 54) : State :=
  (if scanFaulted samples then s.faultedEnd n else s.goodScan n samples).updateString n
    (fun g => g.afterCycle (!scanFaulted samples && scanActivity samples == 0#24) Config.scanLength)

/-- SCAN_END (R111), on a RUNNING string with a scan in flight; otherwise no end event is made. -/
def execScanEnd (n : StringNo) (samples : BitVec 54) (s : State) :
    Host.Outcome State Fault Refusal :=
  if (s.string n).state = .running ∧ (s.string n).cycle = some .scan then
    .next (s.endScan n samples)
  else .next s

/-! ### The end event of a roll call (R125 to R131) -/

/-- Mark m of slot k in a good roll call: `hist` is the slot's mark history before the event. -/
def State.rollCallMark (s : State) (n : StringNo) (k : SlotNo) (hist : BitVec 8)
    (samples : BitVec 27) (m : Mark) : State :=
  match s.findKey (.wire n k (some m)) with
  | none => if markAnswered samples m.val then s.report .stray (.mark n k m) else s
  | some e =>
    if markAnswered samples m.val then
      match s.senseAt e with
      | .edge => if hist.getLsbD m.val then s else s.occurrence e
      | .level => s.occurrence e
    else s.lapseIfLevel e

/-- The findings of a good roll call in ascending mark order (R128 to R130), the SILENT report when no
mark answered (R131), the mark history brought up to date (R127), and the fault count set to 0. -/
def State.goodRollCall (s : State) (n : StringNo) (k : SlotNo) (samples : BitVec 27) : State :=
  let found :=
    (List.finRange 8).foldl
      (fun s' m => s'.rollCallMark n k ((s.string n).marks[k]) samples m) s
  let reported := if answeredMarks samples = 0#8 then found.report .silent (.slot n k) else found
  reported.updateString n (fun g => { g.setMarks k (answeredMarks samples) with faults := 0 })

/-- The end event of a roll call of slot k (R125): its slot leaves the queue, good or faulted, before what
follows is decided. -/
def State.endRollCall (s : State) (n : StringNo) (k : SlotNo) (samples : BitVec 27) : State :=
  (if rollCallFaulted k samples then s.faultedEnd n else s.goodRollCall n k samples).updateString n
    (fun g => (g.dropRollCall k).afterCycle false Config.rollCallLength)

/-- ROLL_CALL_END (R125), on a RUNNING string with a roll call in flight; otherwise no end event is
made. -/
def execRollCallEnd (n : StringNo) (samples : BitVec 27) (s : State) :
    Host.Outcome State Fault Refusal :=
  match (s.string n).state, (s.string n).cycle with
  | .running, some (.rollCall k) => .next (s.endRollCall n k samples)
  | .running, some .scan => .next s
  | .running, none => .next s
  | .off, _ => .next s
  | .resting, _ => .next s
  | .faulted, _ => .next s

/-! ### The wake hold (R107) -/

/-- WAKE_HOLD (R107): a RESTING string becomes RUNNING in a gap; a hold has no effect in any other state. -/
def execWakeHold (n : StringNo) (s : State) : Host.Outcome State Fault Refusal :=
  match (s.string n).state with
  | .resting => .next (s.updateString n StringEngine.beginGap)
  | .off => .next s
  | .running => .next s
  | .faulted => .next s

end Sys2Proof.Machine
end

