-- ==== Sys2Proof/Machine/TakerPort.lean ====
section
/-! DEFINITION. The taker windows (spec/03, spec/07): CLAIM, PEEK, DONE, YIELD, FLOOR, POST, TRESET. -/

namespace Sys2Proof.Machine

/-- The word a read of CLAIM or PEEK returns to taker t (R49, R56, R57). -/
def State.returnRead (s : State) (t : Taker) (w : Word) : State :=
  s.setPort t { s.port t with readData := some w }

/-! ### CLAIM (R37, R40, R43, R44) -/

/-- The offer arbiter passes the claim of taker t: the directory controller answers it whole, the pointer
names t whatever the answer (R44), and the answer word as it stood at the claim returns to t (R40). -/
def State.claimOne (s : State) (t : Taker) : State :=
  let passed : State :=
    { (match s.claimAnswer t with
        | .offer e => s.take t e
        | .empty => s
        | .full => s
        | .halted => s
        | .clearing => s) with arbiter := t }
  passed.returnRead t (s.claimWord (s.claimAnswer t))

/-- The round-robin order from the first taker after the pointer (R43). -/
def passOrder (p : Taker) : List Taker := [p + 1, p + 2, p + 3, p]

/-- Claims presented together are passed one at a time in round-robin order (R43). -/
def State.claimGroup (s : State) (group : TakerSet) : State :=
  (passOrder s.arbiter).foldl (fun s t => if group.getLsbD t.val then s.claimOne t else s) s

/-- Reads of a group of takers while RESETn is asserted: each returns 0 (R172). -/
def State.claimInReset (s : State) (group : TakerSet) : State :=
  (passOrder s.arbiter).foldl
    (fun s t => if group.getLsbD t.val then s.returnRead t 0#32 else s) s

/-- CLAIM (R40): the reads of the takers of `group` are presented together (R43). -/
def execClaim (group : TakerSet) (s : State) : Host.Outcome State Fault Refusal :=
  .next (if s.inReset then s.claimInReset group else s.claimGroup group)

/-- PEEK (R39, R57): the answer of R37, and no other change. -/
def execPeek (t : Taker) (s : State) : Host.Outcome State Fault Refusal :=
  .next (s.returnRead t (if s.inReset then 0#32 else s.claimWord (s.claimAnswer t)))

/-! ### DONE (R58 to R61) -/

/-- The directory controller's answer to DONE of entry e by taker t: the first case of R58. -/
def State.doneAnswer (s : State) (t : Taker) (e : EntryNo) : Answer :=
  if s.clearing then .notHeld
  else if (s.stack t).head? = some e then .ok
  else if e ∈ s.stack t then .order
  else if e ∈ s.withdrawnOf t then .late
  else .notHeld

/-- The effect of a DONE by its answer (R59, R60, R61), with the report R50 gives. -/
def State.doneEffect (s : State) (t : Taker) (e : EntryNo) : State :=
  match s.doneAnswer t e with
  | .ok => s.finish t e
  | .late => (s.setWithdrawn t ((s.withdrawnOf t).erase e)).report .late (.entry e)
  | .order => s.report .protocol (.taker t)
  | .notHeld => s.report .protocol (.taker t)
  | .denied => s
  | .noChannel => s
  | .range => s

/-- The port keeps the word written to DONE and the answer it received (R49, R50). -/
def State.recordDone (s : State) (t : Taker) (v : Word) (a : Answer) : State :=
  s.setPort t { s.port t with answer := a, lastDone := v }

/-- A write of `v` to DONE by taker t (R51, R58). -/
def State.writeDone (s : State) (t : Taker) (v : Word) : State :=
  match entryField v with
  | none => s.recordDone t v .range
  | some e => (s.doneEffect t e).recordDone t v (s.doneAnswer t e)

/-- DONE (R58). -/
def execDone (t : Taker) (v : Word) (s : State) : Host.Outcome State Fault Refusal :=
  .next (s.access fun s => s.writeDone t v)

/-! ### YIELD (R63) -/

/-- The answer to YIELD of entry e by taker t: the first case of R63 that applies. -/
def State.yieldAnswer (s : State) (t : Taker) (e : EntryNo) : Answer :=
  if s.clearing then .notHeld
  else if (s.stack t).head? = some e then .ok
  else if e ∈ s.stack t then .order
  else .notHeld

/-- The effect of a YIELD by its answer (R63), with the report R50 gives. -/
def State.yieldEffect (s : State) (t : Taker) (e : EntryNo) : State :=
  match s.yieldAnswer t e with
  | .ok => s.giveBack t e
  | .order => s.report .protocol (.taker t)
  | .notHeld => s.report .protocol (.taker t)
  | .late => s
  | .denied => s
  | .noChannel => s
  | .range => s

/-- The port keeps the word written to YIELD and its answer (R49, R50). -/
def State.recordYield (s : State) (t : Taker) (v : Word) (a : Answer) : State :=
  s.setPort t { s.port t with answer := a, lastYield := v }

/-- A write of `v` to YIELD by taker t (R51, R63). -/
def State.writeYield (s : State) (t : Taker) (v : Word) : State :=
  match entryField v with
  | none => s.recordYield t v .range
  | some e => (s.yieldEffect t e).recordYield t v (s.yieldAnswer t e)

/-- YIELD (R63). -/
def execYield (t : Taker) (v : Word) (s : State) : Host.Outcome State Fault Refusal :=
  .next (s.access fun s => s.writeYield t v)

/-! ### FLOOR (R68) -/

/-- A write of `v` to FLOOR by taker t. -/
def State.writeFloor (s : State) (t : Taker) (v : Word) : State :=
  match floorField v with
  | none => s.setPort t { s.port t with answer := .range }
  | some k => s.setPort t { s.port t with answer := .ok, floor := k }

/-- FLOOR (R68). -/
def execFloor (t : Taker) (v : Word) (s : State) : Host.Outcome State Fault Refusal :=
  .next (s.access fun s => s.writeFloor t v)

/-! ### POST from a taker window (R69, R136 to R139) -/

/-- The table's answer to a POST of channel c by taker t: the first case of R136 that applies. -/
def State.postAnswer (s : State) (t : Taker) (c : Channel) : Answer :=
  if !(s.masks[c]).getLsbD t.val then .denied
  else
    match s.findKey (.posted c) with
    | none => .noChannel
    | some _ => .ok

/-- A POST that the mask allows: an occurrence for the bound entry, or a STRAY report (R136, R137, R140). -/
def State.deliverPost (s : State) (c : Channel) : State :=
  match s.findKey (.posted c) with
  | none => s.report .stray (.channel c)
  | some e => s.occurrence e

/-- The effect of a POST of channel c by taker t (R136, R139). -/
def State.postEffect (s : State) (t : Taker) (c : Channel) : State :=
  if !(s.masks[c]).getLsbD t.val then s.report .denied (.takerChannel t c) else s.deliverPost c

/-- The port keeps the word written to POST and its answer (R49, R50). -/
def State.recordPost (s : State) (t : Taker) (v : Word) (a : Answer) : State :=
  s.setPort t { s.port t with answer := a, lastPost := v }

/-- A write of `v` to POST by taker t (R51, R69). -/
def State.writePost (s : State) (t : Taker) (v : Word) : State :=
  match channelField v with
  | none => s.recordPost t v .range
  | some c => (s.postEffect t c).recordPost t v (s.postAnswer t c)

/-- POST (R136). -/
def execPost (t : Taker) (v : Word) (s : State) : Host.Outcome State Fault Refusal :=
  .next (s.access fun s => s.writePost t v)

/-! ### TRESET (R70, R71) -/

/-- Every entry of taker t's stack is given back, from the top to the bottom, and the stack is empty. -/
def State.giveBackAll (s : State) (t : Taker) : State :=
  ((s.stack t).foldl (fun s e => s.giveBack t e) s).setStack t []

/-- A write of `v` to TRESET by taker t: outside clearing the stack is given back (R70); while clearing no
entry moves (R71). Either way the withdrawn list is emptied and the floor becomes 0. -/
def State.writeTreset (s : State) (t : Taker) (v : Word) : State :=
  let s' := (if s.clearing then s else s.giveBackAll t).setWithdrawn t []
  s'.setPort t { s'.port t with answer := .ok, floor := 0, lastTreset := v }

/-- TRESET (R70). -/
def execTreset (t : Taker) (v : Word) (s : State) : Host.Outcome State Fault Refusal :=
  .next (s.access fun s => s.writeTreset t v)

end Sys2Proof.Machine
end

