-- ==== Sys2Proof/Machine/Channels.lean ====
section
/-! DEFINITION. The management POST and PERMIT (spec/07). -/

namespace Sys2Proof.Machine

/-- The management POST as the posted channel table takes it: cases 2 and 3 of R136, no mask (R140). -/
def State.runPostCommand (s : State) : State :=
  match s.findKey (.posted (recordChannel s)) with
  | none => (s.deliverPost (recordChannel s)).complete 7#4 .noChannel []
  | some e => (s.deliverPost (recordChannel s)).complete 7#4 .ok [boundEntryWord e]

/-- RES1 and RES2 of a PERMIT: the sixteen masks (10.6). -/
def State.permitWords (s : State) : List Word := [s.masksWord 0, s.masksWord 8]

/-- The state with the mask of one channel replaced. -/
def State.setMask (s : State) (c : Channel) (m : TakerSet) : State :=
  { s with masks := s.masks.set c.val m c.isLt }

/-- PERMIT as the posted channel table takes it (R141): a PERMIT that names a channel is refused if a bit
of its mask word above bit 3 is set; one that names none reads the masks. -/
def State.runPermit (s : State) : State :=
  if Bits.bit s.cmd[1] 8 then
    if Bits.get s.cmd[2] 4 28 ≠ 0 then s.complete 8#4 .badField []
    else
      let s' := s.setMask (recordChannel s) ((s.cmd[2]).extractLsb' 0 4)
      s'.complete 8#4 .ok s'.permitWords
  else s.complete 8#4 .ok s.permitWords

end Sys2Proof.Machine
end

