-- ==== Sys2Proof/Machine/ConditionTable.lean ====
section
/-! DEFINITION. The CONDITION command (R167, R168). -/

namespace Sys2Proof.Machine

/-- An acknowledged row: flag clear, count 0, culprit absent; the enable is kept (R168). -/
def Condition.acknowledged (c : Condition) : Condition :=
  { c with latched := false, count := 0#8, culprit := none }

/-- Row k after an accepted CONDITION: acknowledged where named, then given its new enable unless KEEP. -/
def ConditionRecord.applyRow (f : ConditionRecord) (k : Fin 9) (c : Condition) : Condition :=
  let c' := if f.acknowledge.getLsbD k.val then c.acknowledged else c
  match f.enables with
  | none => c'
  | some n => { c' with enabled := n.getLsbD k.val }

/-- The condition table after an accepted CONDITION (R168). -/
def State.applyCondition (s : State) (f : ConditionRecord) : State :=
  { s with conditions := Vector.ofFn fun k : Fin 9 => f.applyRow k s.conditions[k] }

/-- RES1 of a CONDITION: latched flags in 8:0 and alert enables in 24:16 of the nine rows (10.6). -/
def State.flagsWord (s : State) : Word :=
  Bits.pack
    (((List.finRange 9).map fun k => (k.val, Bits.flag (s.conditions[k]).latched)) ++
      (List.finRange 9).map fun k => (16 + k.val, Bits.flag (s.conditions[k]).enabled))

/-- RES2 to RES10 of a CONDITION: the rows of the read set, 0 for a row not read (10.8). -/
def State.rowWords (s : State) (f : ConditionRecord) : List Word :=
  (List.finRange 9).map fun k =>
    if f.read.getLsbD k.val then (s.conditions[k]).word else 0#32

/-- CONDITION as the condition table takes it: rows are read as they stand when it is taken, then
acknowledged, then enabled; the flags and enables returned are those after it (R168). -/
def State.runCondition (s : State) : State :=
  match conditionRecord s with
  | none => s.complete 12#4 .badField []
  | some f =>
    (s.applyCondition f).complete 12#4 .ok ((s.applyCondition f).flagsWord :: s.rowWords f)

end Sys2Proof.Machine
end

