-- ==== Sys2Proof/Machine/Directory.lean ====
section
/-! DEFINITION. The directory commands BIND, AMEND, RETIRE, LOOKUP and FIND (spec/01, spec/08). Each `run…`
is the command as its owner takes it, with its completion (R152). -/

namespace Sys2Proof.Machine

/-! ### BIND (R20, R21, R153) -/

/-- Whether a new key clashes with the key of a bound entry (the table of R8). -/
def Key.clash : Key → Key → Bool
  | .wire n k none, .wire n' k' _ => n == n' && k == k'
  | .wire n k (some _), .wire n' k' none => n == n' && k == k'
  | .wire n k (some m), .wire n' k' (some m') => n == n' && k == k' && m == m'
  | .posted c, .posted c' => c == c'
  | .wire _ _ _, .posted _ => false
  | .posted _, .wire _ _ _ => false

/-- Whether the key of entry e clashes with a new key. -/
def State.keyClashes (s : State) (key : Key) (e : EntryNo) : Bool :=
  match s.entry e with
  | none => false
  | some b => key.clash b.key

/-- The lowest-numbered bound entry whose key a new key clashes with (R153). -/
def State.clashingEntry (s : State) (key : Key) : Option EntryNo :=
  allEntries.find? (s.keyClashes key)

/-- The lowest-numbered FREE entry (R21). -/
def State.lowestFree (s : State) : Option EntryNo :=
  allEntries.find? fun e => (s.entry e).isNone

/-- The record a BIND makes (R21). -/
def BindRecord.newEntry (f : BindRecord) : Entry :=
  { key := f.key
    level := f.level
    sense := f.sense
    eligible := f.eligible
    tag := f.tag
    limitClass := f.limitClass
    reoffered := false
    hits := 0#16
    phase := if f.armed then .armed else .dormant }

/-- Checks 2 and 3 of R20 for the entry a BIND would take, and its effect (R21). -/
def State.bindAt (s : State) (f : BindRecord) (e : EntryNo) : State :=
  match s.clashingEntry f.key with
  | some x => s.complete 1#4 .keyClash [boundEntryWord x]
  | none => (s.setEntry e (some f.newEntry)).complete 1#4 .ok [boundEntryWord e]

/-- BIND as the directory controller takes it. -/
def State.runBind (s : State) : State :=
  match bindRecord s with
  | none => s.complete 1#4 .badField []
  | some f =>
    match f.target with
    | none =>
      match s.lowestFree with
      | none => s.complete 1#4 .noRoom []
      | some e => s.bindAt f e
    | some e =>
      if (s.entry e).isSome then s.complete 1#4 .taken [boundEntryWord e] else s.bindAt f e

/-! ### AMEND (R22 to R25, R154) -/

/-- The fields that an AMEND changes at once in every state it accepts (R25). -/
def AmendRecord.applyFields (f : AmendRecord) (b : Entry) : Entry :=
  { b with
    sense := f.sense.getD b.sense
    eligible := f.eligible.getD b.eligible
    tag := f.tag.getD b.tag
    limitClass := f.limitClass.getD b.limitClass }

/-- The service of a HELD entry after an AMEND: level and enable state are staged (R23, R24). -/
def AmendRecord.stage (f : AmendRecord) (b : Entry) (v : Service) : Service :=
  { v with
    stagedLevel :=
      match f.level with
      | none => v.stagedLevel
      | some k => if k = b.level then none else some k
    stagedDormancy :=
      match f.enable with
      | none => v.stagedDormancy
      | some true => false
      | some false => true }

/-- The effect of an accepted AMEND on entry e, by its state (R23, R24, R25, R33). -/
def State.amendEntry (s : State) (f : AmendRecord) (e : EntryNo) (b : Entry) : State :=
  let b' := f.applyFields b
  let k := f.level.getD b.level
  match b.phase with
  | .dormant =>
    s.setEntry e
      (some { b' with level := k, phase := if f.enable = some true then .armed else .dormant })
  | .armed =>
    s.setEntry e
      (some { b' with level := k, phase := if f.enable = some false then .dormant else .armed })
  | .raised =>
    if f.enable = some false then
      (s.dropQueue b.level e).setEntry e (some { b' with level := k, phase := .dormant })
    else if k = b.level then s.setEntry e (some b')
    else ((s.dropQueue b.level e).setEntry e (some { b' with level := k })).pushTail k e
  | .held v => s.setEntry e (some { b' with phase := .held (f.stage b v) })
  | .retiring _ => s

/-- The result of an accepted AMEND: STAGED if the entry is HELD and the mask names level or enable state,
OK otherwise (R22). -/
def AmendRecord.result (f : AmendRecord) (b : Entry) : ResultCode :=
  if b.isHeld && (f.level.isSome || f.enable.isSome) then .staged else .ok

/-- AMEND as the directory controller takes it: the field checks, then the state check (R22, R154). -/
def State.runAmend (s : State) : State :=
  match amendRecord s with
  | none => s.complete 2#4 .badField []
  | some f =>
    match s.entry f.entry with
    | none => s.complete 2#4 .noEntry [s.entryStateWord f.entry]
    | some b =>
      if f.sense = some .level ∧ b.key.isPosted = true then s.complete 2#4 .badField []
      else if b.isRetiring then s.complete 2#4 .noEntry [s.entryStateWord f.entry]
      else
        (s.amendEntry f f.entry b).complete 2#4 (f.result b)
          [(s.amendEntry f f.entry b).entryStateWord f.entry]

/-! ### RETIRE (R26, R154) -/

/-- The service of an entry that enters RETIRING: again and staged dormancy are cleared, the rest is kept
(R18). -/
def Service.retire (v : Service) : Service := { v with again := false, stagedDormancy := false }

/-- The effect of RETIRE on a bound entry, by its state (R26). -/
def State.retireEntry (s : State) (e : EntryNo) (b : Entry) : State :=
  match b.phase with
  | .dormant => s.free e
  | .armed => s.free e
  | .raised => s.free e
  | .held v => s.setEntry e (some { b with phase := .retiring v.retire })
  | .retiring _ => s

/-- RETIRE as the directory controller takes it. -/
def State.runRetire (s : State) : State :=
  match recordEntry s with
  | none => s.complete 3#4 .badField []
  | some e =>
    match s.entry e with
    | none => s.complete 3#4 .noEntry [s.entryStateWord e]
    | some b =>
      let s' := s.retireEntry e b
      match b.phase with
      | .dormant => s'.complete 3#4 .ok [s'.entryStateWord e]
      | .armed => s'.complete 3#4 .ok [s'.entryStateWord e]
      | .raised => s'.complete 3#4 .dropped [s'.entryStateWord e]
      | .held v => s'.complete 3#4 .deferred [s'.deferredWord e v.holder]
      | .retiring v => s'.complete 3#4 .deferred [s'.deferredWord e v.holder]

/-! ### LOOKUP and FIND (R157, R158) -/

/-- LOOKUP as the management port answers it. -/
def State.runLookup (s : State) : State :=
  match recordEntry s with
  | none => s.complete 4#4 .badField []
  | some e =>
    match s.entry e with
    | none => s.complete 4#4 .noEntry [s.entryStateWord e]
    | some b => s.complete 4#4 .ok (lookupWords e b)

/-- FIND as the management port answers it. -/
def State.runFind (s : State) : State :=
  match keyField s.cmd[2] with
  | none => s.complete 5#4 .badField []
  | some key =>
    match s.findKey key with
    | none => s.complete 5#4 .noEntry []
    | some e => s.complete 5#4 .ok [s.entryStateWord e]

end Sys2Proof.Machine
end

