-- ==== Sys2Proof/Machine/Limits.lean ====
section
/-! DEFINITION. The limit unit: LIMIT, the tick, and the two expiries (spec/04). -/

namespace Sys2Proof.Machine

/-- A named row takes its new contents (R78). -/
def State.setLimitRow (s : State) : Option (Fin 7 × LimitRow) → State
  | none => s
  | some r => { s with limits := s.limits.set r.1.val r.2 r.1.isLt }

/-- A named prescaler value is set and the count starts afresh (R77). -/
def State.setPrescaler (s : State) : Option (BitVec 16) → State
  | none => s
  | some p => { s with prescaler := p, prescaleCount := 0 }

/-- LIMIT as the limit unit takes it (R78). -/
def State.runLimit (s : State) : State :=
  match limitRowField s, prescalerField s with
  | some r, some p =>
    let s' := (s.setLimitRow r).setPrescaler p
    s'.complete 11#4 .ok s'.limitWords
  | some _, none => s.complete 11#4 .badField []
  | none, _ => s.complete 11#4 .badField []

/-- TICK (R77, R81). No tick is produced while RESETn is asserted. -/
def execTick (s : State) : Host.Outcome State Fault Refusal :=
  .next (if s.inReset then s else s.tickAll)

/-- FIRST_EXPIRY (R83): the directory controller takes an expiry of entry e that waits, in a service with
expiries 0. Where none waits, its record was removed and the expiry is discarded (R82); while the
directory is clearing it is discarded with no report (R27). -/
def execFirstExpiry (e : EntryNo) (s : State) : Host.Outcome State Fault Refusal :=
  match s.outstanding e with
  | none => .next s
  | some (b, v, l) =>
    if v.expiries = 0 then
      .next (if s.clearing then s.discardExpiry e b l else s.takeFirstExpiry e b v l)
    else .next s

/-- SECOND_EXPIRY (R84): the same for a service with expiries 1. -/
def execSecondExpiry (e : EntryNo) (s : State) : Host.Outcome State Fault Refusal :=
  match s.outstanding e with
  | none => .next s
  | some (b, v, l) =>
    if v.expiries = 1 then
      .next (if s.clearing then s.discardExpiry e b l else s.takeSecondExpiry e b v l)
    else .next s

/-- A RUNNING string's clock moves by one REFCLK period (R94); it is stopped in every other state. -/
def StringEngine.refclk (g : StringEngine) : StringEngine :=
  match g.state with
  | .running => { g with clock := g.clock + 1 }
  | .off => g
  | .resting => g
  | .faulted => g

/-- One REFCLK period: the string clocks move, and the prescaler counts, with a tick at each P-th period
(R77, R94). Nothing moves while RESETn is asserted. -/
def State.refclk (s : State) : State :=
  if s.inReset then s
  else
    let s' : State :=
      { s with
        strings := #v[s.strings[0].refclk, s.strings[1].refclk, s.strings[2].refclk]
        prescaleCount := s.prescaleCount + 1 }
    if s.prescaler.toNat ≤ s.prescaleCount + 1 then s'.tickAll else s'

end Sys2Proof.Machine
end

