-- ==== Sys2Proof/Machine/Sweep.lean ====
section
/-! DEFINITION. SWEEP and its examinations (spec/08 section 8.6). -/

namespace Sys2Proof.Machine

/-- The source filter test for a bound entry (R159, R160). -/
def SourceFilter.passes : SourceFilter → Key → Bool
  | .any, _ => true
  | .wire, .wire _ _ _ => true
  | .wire, .posted _ => false
  | .wireString n, .wire n' _ _ => n == n'
  | .wireString _, .posted _ => false
  | .wireSlot n k, .wire n' k' _ => n == n' && k == k'
  | .wireSlot _ _, .posted _ => false
  | .posted, .wire _ _ _ => false
  | .posted, .posted _ => true
  | .postedChannel _, .wire _ _ _ => false
  | .postedChannel c, .posted c' => c == c'

/-- Whether an examined entry matches (R160): its state is in the mask, and, if it is bound, its present
level lies in the range and it passes the filter; a FREE entry passes only the filter ANY. -/
def SweepRun.matchesEntry (r : SweepRun) : Option Entry → Bool
  | none => r.states.getLsbD 0 && r.filter == .any
  | some b =>
    r.states.getLsbD b.phase.code && decide (r.low ≤ b.level) && decide (b.level ≤ r.high) &&
      r.filter.passes b.key

/-- SWEEP as the management port takes it: refused by the checks of R159, or an examination that starts
at the cursor, with the slot BUSY and the done flag cleared by the GO (R146, R161). -/
def State.runSweep (s : State) : State :=
  match sweepRecord s with
  | none => s.complete 6#4 .badField []
  | some r => { s with slot := .sweep r, doneFlag := false }

/-- The entry after e, or none after entry 95. -/
def nextEntry (e : EntryNo) : Option EntryNo := entryNo? (e.val + 1)

/-- The page after the examination of the next entry (R161). -/
def State.sweepPage (s : State) (r : SweepRun) : List EntryNo :=
  if r.matchesEntry (s.entry r.next) then r.page ++ [r.next] else r.page

/-- One examination of the SWEEP r (R161): a page of 12 ends with the entry examined; otherwise the
examination of entry 95 ends it; otherwise the next entry is to be examined. -/
def State.examine (s : State) (r : SweepRun) : State :=
  if Config.sweepPage ≤ (s.sweepPage r).length then
    s.complete 6#4 .ok (sweepWords (s.sweepPage r) (nextEntry r.next))
  else
    match nextEntry r.next with
    | none => s.complete 6#4 .ok (sweepWords (s.sweepPage r) none)
    | some e => { s with slot := .sweep { r with next := e, page := s.sweepPage r } }

/-- SWEEP_EXAMINATION (R161). No SWEEP in flight: there is nothing to examine. -/
def execSweepExamination (s : State) : Host.Outcome State Fault Refusal :=
  match s.slot with
  | .sweep r => .next (s.examine r)
  | .idle => .next s
  | .resetDirectory _ => .next s

end Sys2Proof.Machine
end

