-- ==== Sys2Proof/Machine/TakerCommands.lean ====
section
/-! DEFINITION. The TAKER command by its action: ENABLE, HALT, NONE, and an action that is none of them
(R74, R75, R155). -/

namespace Sys2Proof.Machine

/-- The taker port's enable state replaced (R74). -/
def State.setEnabled (s : State) (t : Taker) (on : Bool) : State :=
  s.setPort t { s.port t with enabled := on }

/-- TAKER with action ENABLE. -/
def State.runTakerEnable (s : State) : State :=
  match recordTaker s with
  | none => s.complete 9#4 .badField []
  | some t => (s.setEnabled t true).complete 9#4 .ok ((s.setEnabled t true).takerView t)

/-- TAKER with action HALT. -/
def State.runTakerHalt (s : State) : State :=
  match recordTaker s with
  | none => s.complete 9#4 .badField []
  | some t => (s.setEnabled t false).complete 9#4 .ok ((s.setEnabled t false).takerView t)

/-- TAKER with action NONE, which reads the taker. -/
def State.runTakerNone (s : State) : State :=
  match recordTaker s with
  | none => s.complete 9#4 .badField []
  | some t => s.complete 9#4 .ok (s.takerView t)

/-- TAKER with an action that is none of the three: BADFIELD, and nothing changes. -/
def State.runTakerBadAction (s : State) : State := s.complete 9#4 .badField []

end Sys2Proof.Machine
end

