-- ==== Sys2Proof/Machine/Go.lean ====
section
/-! DEFINITION. GO: which row of the table a write to GO is, and the meaning of each such row. The slot's
state and the command record alone decide (R146, R148); the word written is not used. A command that
completes promptly is one event from its GO to its completion (spec/95). -/

namespace Sys2Proof.Machine

/-- The rows of the table that are a write to GO. -/
inductive GoRow where
  | whileBusy | undefinedCommand | bind | amend | retire | lookup | find | sweep | postCommand
  | permit | takerNone | takerEnable | takerHalt | takerBadAction | start | stop | mode | divisor
  | stringBadAction | limit | condition | resetDirectory
  deriving DecidableEq, Repr

/-- The row of a TAKER command by its action code (10.5). -/
def takerRow (action : Nat) : GoRow :=
  if action = 0 then .takerNone
  else if action = 1 then .takerEnable
  else if action = 2 then .takerHalt
  else .takerBadAction

/-- The row of a STRING command by its action code (10.5). -/
def stringRow (action : Nat) : GoRow :=
  if action = 0 then .start
  else if action = 1 then .stop
  else if action = 2 then .mode
  else if action = 3 then .divisor
  else .stringBadAction

/-- The row of a command record by its command code (10.2). -/
def recordRow (s : State) : GoRow :=
  if s.commandCode = 1#4 then .bind
  else if s.commandCode = 2#4 then .amend
  else if s.commandCode = 3#4 then .retire
  else if s.commandCode = 4#4 then .lookup
  else if s.commandCode = 5#4 then .find
  else if s.commandCode = 6#4 then .sweep
  else if s.commandCode = 7#4 then .postCommand
  else if s.commandCode = 8#4 then .permit
  else if s.commandCode = 9#4 then takerRow (takerAction s)
  else if s.commandCode = 10#4 then stringRow (stringAction s)
  else if s.commandCode = 11#4 then .limit
  else if s.commandCode = 12#4 then .condition
  else if s.commandCode = 13#4 then .resetDirectory
  else .undefinedCommand

/-- The row that a write to GO is (R146, R148). -/
def State.goRow (s : State) : GoRow := if s.busy then .whileBusy else recordRow s

/-- A command code that names no command: BADFIELD, and nothing else changes (R146). -/
def State.runUndefined (s : State) : State := s.complete s.commandCode .badField []

/-- The effect of a row that is a write to GO. -/
def State.runRow (s : State) : GoRow → State
  | .whileBusy => s.collide
  | .undefinedCommand => s.runUndefined
  | .bind => s.runBind
  | .amend => s.runAmend
  | .retire => s.runRetire
  | .lookup => s.runLookup
  | .find => s.runFind
  | .sweep => s.runSweep
  | .postCommand => s.runPostCommand
  | .permit => s.runPermit
  | .takerNone => s.runTakerNone
  | .takerEnable => s.runTakerEnable
  | .takerHalt => s.runTakerHalt
  | .takerBadAction => s.runTakerBadAction
  | .start => s.runStart
  | .stop => s.runStop
  | .mode => s.runMode
  | .divisor => s.runDivisor
  | .stringBadAction => s.runStringBadAction
  | .limit => s.runLimit
  | .condition => s.runCondition
  | .resetDirectory => s.runResetDirectory

/-- A write to GO. -/
def State.writeGo (s : State) : State := s.runRow s.goRow

/-- A write to GO that its sender calls row r. Where the slot and the record make it row r, the effect is
`run`; otherwise it is the row they make it, for the part knows no other name of the access. -/
def State.goAs (s : State) (r : GoRow) (run : State → State) : State :=
  s.access fun s => if s.goRow = r then run s else s.writeGo

/-- GO_WHILE_BUSY (R148): the write is refused and reported to COLLISION. -/
def execGoWhileBusy (_go : Word) (s : State) : Host.Outcome State Fault Refusal :=
  .next (s.goAs .whileBusy State.collide)

/-- UNDEFINED_COMMAND (R146). -/
def execUndefinedCommand (_go : Word) (s : State) : Host.Outcome State Fault Refusal :=
  .next (s.goAs .undefinedCommand State.runUndefined)

/-- BIND (R21). -/
def execBind (_go : Word) (s : State) : Host.Outcome State Fault Refusal :=
  .next (s.goAs .bind State.runBind)

/-- AMEND (R22). -/
def execAmend (_go : Word) (s : State) : Host.Outcome State Fault Refusal :=
  .next (s.goAs .amend State.runAmend)

/-- RETIRE (R26). -/
def execRetire (_go : Word) (s : State) : Host.Outcome State Fault Refusal :=
  .next (s.goAs .retire State.runRetire)

/-- LOOKUP (R157). -/
def execLookup (_go : Word) (s : State) : Host.Outcome State Fault Refusal :=
  .next (s.goAs .lookup State.runLookup)

/-- FIND (R158). -/
def execFind (_go : Word) (s : State) : Host.Outcome State Fault Refusal :=
  .next (s.goAs .find State.runFind)

/-- SWEEP (R159). -/
def execSweep (_go : Word) (s : State) : Host.Outcome State Fault Refusal :=
  .next (s.goAs .sweep State.runSweep)

/-- POST_COMMAND (R140). -/
def execPostCommand (_go : Word) (s : State) : Host.Outcome State Fault Refusal :=
  .next (s.goAs .postCommand State.runPostCommand)

/-- PERMIT (R141). -/
def execPermit (_go : Word) (s : State) : Host.Outcome State Fault Refusal :=
  .next (s.goAs .permit State.runPermit)

/-- TAKER_ENABLE (R74). -/
def execTakerEnable (_go : Word) (s : State) : Host.Outcome State Fault Refusal :=
  .next (s.goAs .takerEnable State.runTakerEnable)

/-- TAKER_HALT (R74). -/
def execTakerHalt (_go : Word) (s : State) : Host.Outcome State Fault Refusal :=
  .next (s.goAs .takerHalt State.runTakerHalt)

/-- TAKER_NONE (R155). -/
def execTakerNone (_go : Word) (s : State) : Host.Outcome State Fault Refusal :=
  .next (s.goAs .takerNone State.runTakerNone)

/-- TAKER_BAD_ACTION (R155). -/
def execTakerBadAction (_go : Word) (s : State) : Host.Outcome State Fault Refusal :=
  .next (s.goAs .takerBadAction State.runTakerBadAction)

/-- START (R100). -/
def execStart (_go : Word) (s : State) : Host.Outcome State Fault Refusal :=
  .next (s.goAs .start State.runStart)

/-- STOP (R101). -/
def execStop (_go : Word) (s : State) : Host.Outcome State Fault Refusal :=
  .next (s.goAs .stop State.runStop)

/-- MODE (R102). -/
def execMode (_go : Word) (s : State) : Host.Outcome State Fault Refusal :=
  .next (s.goAs .mode State.runMode)

/-- DIVISOR (R103). -/
def execDivisor (_go : Word) (s : State) : Host.Outcome State Fault Refusal :=
  .next (s.goAs .divisor State.runDivisor)

/-- STRING_BAD_ACTION (R104). -/
def execStringBadAction (_go : Word) (s : State) : Host.Outcome State Fault Refusal :=
  .next (s.goAs .stringBadAction State.runStringBadAction)

/-- LIMIT (R78). -/
def execLimit (_go : Word) (s : State) : Host.Outcome State Fault Refusal :=
  .next (s.goAs .limit State.runLimit)

/-- CONDITION (R168). -/
def execCondition (_go : Word) (s : State) : Host.Outcome State Fault Refusal :=
  .next (s.goAs .condition State.runCondition)

/-- RESET_DIRECTORY (R156). -/
def execResetDirectory (_go : Word) (s : State) : Host.Outcome State Fault Refusal :=
  .next (s.goAs .resetDirectory State.runResetDirectory)

end Sys2Proof.Machine
end

