-- ==== Sys2Proof/Machine/Resets.lean ====
section
/-! DEFINITION. Power-on and RESETn (spec/10 R175). -/

namespace Sys2Proof.Machine

/-- Every block at its reset values, with RESETn asserted; the queue of commands is not the part's. -/
def State.held (s : State) : State := { State.reset with pending := s.pending, inReset := true }

/-- POWER_ON (R175): every block takes its reset values, with RESETn asserted. -/
def execPowerOn (s : State) : Host.Outcome State Fault Refusal := .next s.held

/-- RESETN_ASSERT (R99, R145, R175): a cycle or command in flight is abandoned and every block takes its
reset values, as at power-on. -/
def execResetnAssert (s : State) : Host.Outcome State Fault Refusal := .next s.held

/-- RESETN_RELEASE after RESETn was held for `held` REFCLK periods: the prescaler count starts afresh (R77)
and the outputs follow their blocks (R175). Held for fewer than 16, the part's state is undefined by
the spec, and the step faults. RESETn not asserted: nothing to release. -/
def execResetnRelease (held : Nat) (s : State) : Host.Outcome State Fault Refusal :=
  if s.inReset then
    if held < Config.resetHold then .fault .shortReset
    else .next { s with inReset := false, prescaleCount := 0 }
  else .next s

end Sys2Proof.Machine
end

