-- ==== Sys2Proof/Machine/Window.lean ====
section
/-! DEFINITION. The management window words beside GO, and a write at any address of the bus (spec/08
section 8.1, spec/10 section 10.1): CMD_WRITE, MSTAT_READ, MCTL_WRITE, IGNORED_WRITE. -/

namespace Sys2Proof.Machine

/-- A write of `v` to CMDk: stored while the slot is IDLE (R146), ignored with a COLLISION report while it
is BUSY (R148). -/
def State.writeCmd (s : State) (k : Fin 8) (v : Word) : State :=
  if s.busy then s.collide else { s with cmd := s.cmd.set k.val v k.isLt }

/-- CMD_WRITE (R146). -/
def execCmdWrite (k : Fin 8) (v : Word) (s : State) : Host.Outcome State Fault Refusal :=
  .next (s.access fun s => s.writeCmd k v)

/-- MSTAT_READ (R149): the word as it stands, and the done flag cleared. While RESETn is asserted the read
returns 0 (R172). -/
def execMstatRead (s : State) : Host.Outcome State Fault Refusal :=
  .next
    (if s.inReset then { s with mstatData := some 0#32 }
     else { s with mstatData := some s.mstatWord, doneFlag := false })

/-- A write of `v` to MCTL: bit 0 is the done-alert enable (R150). -/
def State.writeMctl (s : State) (v : Word) : State := { s with doneEnable := Bits.bit v 0 }

/-- MCTL_WRITE (R150), in either state of the slot. -/
def execMctlWrite (v : Word) (s : State) : Host.Outcome State Fault Refusal :=
  .next (s.access fun s => s.writeMctl v)

/-- A write of `v` at the word address a: the word that a names takes it, or it is ignored (R49, R144,
R172). -/
def State.busWrite (s : State) (a : BitVec 7) (v : Word) : State :=
  match wordAt a with
  | .taker t .done => s.writeDone t v
  | .taker t .yield => s.writeYield t v
  | .taker t .floor => s.writeFloor t v
  | .taker t .post => s.writePost t v
  | .taker t .treset => s.writeTreset t v
  | .taker _ .claim => s
  | .taker _ .peek => s
  | .taker _ .stack => s
  | .taker _ .answer => s
  | .taker _ .unused => s
  | .cmd k => s.writeCmd k v
  | .go => s.writeGo
  | .mctl => s.writeMctl v
  | .mstat => s
  | .summary => s
  | .mgmtUnused => s
  | .res _ => s
  | .unmapped => s

/-- IGNORED_WRITE (R172): a write to a word that takes none changes nothing. The address decides: a write
at any other address is the write its word takes. -/
def execIgnoredWrite (a : BitVec 7) (v : Word) (s : State) : Host.Outcome State Fault Refusal :=
  .next (s.access fun s => if (wordAt a).takesWrite then s.busWrite a v else s)

end Sys2Proof.Machine
end

