-- ==== Sys2Proof/Machine/Dispatch.lean ====
section
/-! DEFINITION. exec: one arm for each command, each a direct call of its meaning. -/

namespace Sys2Proof.Machine

/-- The effect of a command on everything but the queue. -/
def exec (i : Instr) (s : State) : Host.Outcome State Fault Refusal :=
  match i with
  | .claim group => Sys2Proof.Machine.execClaim group s
  | .peek t => Sys2Proof.Machine.execPeek t s
  | .done t v => Sys2Proof.Machine.execDone t v s
  | .yield t v => Sys2Proof.Machine.execYield t v s
  | .floor t v => Sys2Proof.Machine.execFloor t v s
  | .post t v => Sys2Proof.Machine.execPost t v s
  | .treset t v => Sys2Proof.Machine.execTreset t v s
  | .ignoredWrite a v => Sys2Proof.Machine.execIgnoredWrite a v s
  | .cmdWrite k v => Sys2Proof.Machine.execCmdWrite k v s
  | .mstatRead => Sys2Proof.Machine.execMstatRead s
  | .mctlWrite v => Sys2Proof.Machine.execMctlWrite v s
  | .undefinedCommand go => Sys2Proof.Machine.execUndefinedCommand go s
  | .bind go => Sys2Proof.Machine.execBind go s
  | .amend go => Sys2Proof.Machine.execAmend go s
  | .retire go => Sys2Proof.Machine.execRetire go s
  | .lookup go => Sys2Proof.Machine.execLookup go s
  | .find go => Sys2Proof.Machine.execFind go s
  | .sweep go => Sys2Proof.Machine.execSweep go s
  | .sweepExamination => Sys2Proof.Machine.execSweepExamination s
  | .postCommand go => Sys2Proof.Machine.execPostCommand go s
  | .permit go => Sys2Proof.Machine.execPermit go s
  | .takerEnable go => Sys2Proof.Machine.execTakerEnable go s
  | .takerHalt go => Sys2Proof.Machine.execTakerHalt go s
  | .takerNone go => Sys2Proof.Machine.execTakerNone go s
  | .start go => Sys2Proof.Machine.execStart go s
  | .stop go => Sys2Proof.Machine.execStop go s
  | .mode go => Sys2Proof.Machine.execMode go s
  | .divisor go => Sys2Proof.Machine.execDivisor go s
  | .limit go => Sys2Proof.Machine.execLimit go s
  | .condition go => Sys2Proof.Machine.execCondition go s
  | .resetDirectory go => Sys2Proof.Machine.execResetDirectory go s
  | .clearingFree => Sys2Proof.Machine.execClearingFree s
  | .resetDirectoryCompletion => Sys2Proof.Machine.execResetDirectoryCompletion s
  | .nextCycleChoice n => Sys2Proof.Machine.execNextCycleChoice n s
  | .scanEnd n samples => Sys2Proof.Machine.execScanEnd n samples s
  | .rollCallEnd n samples => Sys2Proof.Machine.execRollCallEnd n samples s
  | .wakeHold n => Sys2Proof.Machine.execWakeHold n s
  | .tick => Sys2Proof.Machine.execTick s
  | .firstExpiry e => Sys2Proof.Machine.execFirstExpiry e s
  | .secondExpiry e => Sys2Proof.Machine.execSecondExpiry e s
  | .powerOn => Sys2Proof.Machine.execPowerOn s
  | .resetnAssert => Sys2Proof.Machine.execResetnAssert s
  | .resetnRelease held => Sys2Proof.Machine.execResetnRelease held s
  | .goWhileBusy go => Sys2Proof.Machine.execGoWhileBusy go s
  | .stringBadAction go => Sys2Proof.Machine.execStringBadAction go s
  | .takerBadAction go => Sys2Proof.Machine.execTakerBadAction go s

end Sys2Proof.Machine
end

