-- ==== Sys2Proof/Safety.lean ====
section
/-! DEFINITION. What counts as a sound state of the part: the relations between its pieces of state that
the spec says hold at every moment. Claims about invariants are stated in these terms. -/

namespace Sys2Proof.Safety

open Sys2Proof.Machine

/-! ### The directory -/

/-- Entry e is RAISED and its level is k. -/
def raisedAt (s : State) (k : Level) (e : EntryNo) : Bool :=
  match s.entry e with
  | none => false
  | some b => b.isRaised && b.level == k

/-- R29: an entry stands once in the queue of its own level if it is RAISED, and in no queue otherwise. -/
def QueuesMatch (s : State) : Prop :=
  ∀ (k : Level) (e : EntryNo), (s.queue k).count e = if raisedAt s k e then 1 else 0

/-- Entry e is HELD or RETIRING and its holder is t. -/
def heldBy (s : State) (t : Taker) (e : EntryNo) : Bool :=
  match s.entry e with
  | none => false
  | some b =>
    match b.service with
    | none => false
    | some v => v.holder == t

/-- R52: an entry stands once on the stack of its holder if it is HELD or RETIRING, and on no stack
otherwise. -/
def StacksMatch (s : State) : Prop :=
  ∀ (t : Taker) (e : EntryNo), (s.stack t).count e = if heldBy s t e then 1 else 0

/-- The level of an entry, 0 for a FREE one. -/
def levelOf (s : State) (e : EntryNo) : Level :=
  match s.entry e with
  | none => 0
  | some b => b.level

/-- R52: every stack holds at most 4 entries, and their levels strictly increase from bottom to top. -/
def StacksOrdered (s : State) : Prop :=
  ∀ t : Taker,
    (s.stack t).length ≤ 4 ∧ (s.stack t).Pairwise (fun hi lo => levelOf s lo < levelOf s hi)

/-- R65: every withdrawn list holds at most 4 numbers, none twice, and none that is on the same taker's
stack. -/
def WithdrawnOk (s : State) : Prop :=
  ∀ t : Taker,
    (s.withdrawnOf t).length ≤ 4 ∧ (s.withdrawnOf t).Nodup ∧ ∀ e ∈ s.withdrawnOf t, e ∉ s.stack t

/-- R8: the keys of bound entries are distinct, and no slot is named both with and without a mark. -/
def KeysDistinct (s : State) : Prop :=
  ∀ (e e' : EntryNo) (b b' : Entry),
    s.entry e = some b → s.entry e' = some b' → e ≠ e' → b.key.clash b'.key = false

/-- What R5, R79 and R81 say of a service in progress: overdue says that the first expiry has happened,
a staged level is a level, and a running limit never reads 0 and reads 1 while an expiry of it waits. -/
def ServiceOk (v : Service) : Prop :=
  (v.overdue = true ↔ v.expiries = 1) ∧ v.stagedLevel ≠ some 0 ∧
    ∀ l, v.limit = some l → l.remaining ≠ 0#16 ∧ (l.expired = true → l.remaining = 1#16)

/-- What R3, R5 and R18 say of a bound entry. -/
def EntryOk (b : Entry) : Prop :=
  b.level ≠ 0 ∧ b.eligible ≠ 0#4 ∧ (b.key.isPosted = true → b.sense = .edge) ∧
    (∀ v, b.service = some v → ServiceOk v) ∧
    ∀ v, b.phase = .retiring v → v.again = false ∧ v.stagedDormancy = false

def EntriesOk (s : State) : Prop := ∀ (e : EntryNo) (b : Entry), s.entry e = some b → EntryOk b

/-! ### The other blocks -/

/-- R76, R77: every row's duration is 1 to 65535, P is at least 16, and the count is below P. -/
def LimitUnitOk (s : State) : Prop :=
  (∀ r : Fin 7, (s.limits[r]).duration ≠ 0#16) ∧ 16 ≤ s.prescaler.toNat ∧
    s.prescaleCount < s.prescaler.toNat

/-- What R98 to R110 and R120 to R125 say of a string engine at every moment. -/
structure EngineOk (g : StringEngine) : Prop where
  divisor : 4 ≤ g.divisor.toNat
  queueNodup : g.rollCalls.Nodup
  stoppedClock : g.state ≠ .running → g.cycle = none ∧ g.clock = 0
  pendingInCycle : g.cycle = none → g.stopPending = false ∧ g.pendingMode = none
  scanQueue : g.cycle = some .scan → g.rollCalls = []
  rollCallQueue : ∀ k, g.cycle = some (.rollCall k) → g.rollCalls = [] ∨ g.rollCalls.head? = some k
  runningFaults : g.state = .running → g.faults ≠ 3
  offClear : g.state = .off →
    g.rollCalls = [] ∧ g.history = 0#24 ∧ g.marks = Vector.replicate 24 0#8
  restingQuiet : g.state = .resting →
    g.rollCalls = [] ∧ g.history = 0#24 ∧ g.marks = Vector.replicate 24 0#8 ∧ g.faults = 0 ∧
      g.mode = .onDemand
  faultedCount : g.state = .faulted → g.rollCalls = [] ∧ g.faults = 3

def StringsOk (s : State) : Prop := ∀ n : StringNo, EngineOk (s.string n)

/-- R164: the latched flag is set exactly when the count is above 0, and so is the culprit present. -/
def ConditionOk (c : Condition) : Prop :=
  (c.latched = true ↔ c.count ≠ 0#8) ∧ (c.culprit.isSome = true ↔ c.count ≠ 0#8)

def ConditionsOk (s : State) : Prop := ∀ k : Fin 9, ConditionOk (s.conditions[k])

/-- R161: the page of a SWEEP in flight holds fewer than 12 numbers, in ascending order, all below the entry
to examine next. -/
def SlotOk (s : State) : Prop :=
  ∀ r, s.slot = .sweep r →
    r.page.length < 12 ∧ r.page.Pairwise (· < ·) ∧ ∀ e ∈ r.page, e < r.next

/-- R175, R172: while RESETn is asserted every block holds its reset values, and only the words that reads
return are written. -/
def HeldInReset (s : State) : Prop :=
  s.inReset = true →
    s = { State.reset with
            pending := s.pending, inReset := true, takers := s.takers, mstatData := s.mstatData } ∧
      ∀ t : Taker, s.port t = { TakerPort.reset with readData := (s.port t).readData }

/-- The whole invariant of the part. -/
structure Sound (s : State) : Prop where
  queues : QueuesMatch s
  serviceStacks : StacksMatch s
  ordered : StacksOrdered s
  withdrawn : WithdrawnOk s
  keys : KeysDistinct s
  entries : EntriesOk s
  limitUnit : LimitUnitOk s
  strings : StringsOk s
  conditions : ConditionsOk s
  slot : SlotOk s
  inReset : HeldInReset s

end Sys2Proof.Safety
end

