-- ==== Sys2Proof/WellFormed.lean ====
section
/-! DEFINITION. When a command is well formed: its operands name an access that its row can be. -/

namespace Sys2Proof

/-- A CLAIM names at least one reading taker (R43), and an IGNORED_WRITE an address whose word takes no
write (R172). The other operands are well formed by their types. -/
def Instr.wellFormed : Instr → Bool
  | .claim group => group != 0#4
  | .ignoredWrite a _ => !(wordAt a).takesWrite
  | .peek _ => true
  | .done _ _ => true
  | .yield _ _ => true
  | .floor _ _ => true
  | .post _ _ => true
  | .treset _ _ => true
  | .cmdWrite _ _ => true
  | .mstatRead => true
  | .mctlWrite _ => true
  | .undefinedCommand _ => true
  | .bind _ => true
  | .amend _ => true
  | .retire _ => true
  | .lookup _ => true
  | .find _ => true
  | .sweep _ => true
  | .sweepExamination => true
  | .postCommand _ => true
  | .permit _ => true
  | .takerEnable _ => true
  | .takerHalt _ => true
  | .takerNone _ => true
  | .start _ => true
  | .stop _ => true
  | .mode _ => true
  | .divisor _ => true
  | .limit _ => true
  | .condition _ => true
  | .resetDirectory _ => true
  | .clearingFree => true
  | .resetDirectoryCompletion => true
  | .nextCycleChoice _ => true
  | .scanEnd _ _ => true
  | .rollCallEnd _ _ => true
  | .wakeHold _ => true
  | .tick => true
  | .firstExpiry _ => true
  | .secondExpiry _ => true
  | .powerOn => true
  | .resetnAssert => true
  | .resetnRelease _ => true
  | .goWhileBusy _ => true
  | .stringBadAction _ => true
  | .takerBadAction _ => true

end Sys2Proof
end

