-- ==== Sys2Proof/Certificates/Slice0/Obligations.lean ====
section
/-! DEFINITION. The statements about the part that the provers are asked to settle, and the words they are
written in. A statement's frame is written as an equality of states: a field not named is unchanged. -/

namespace Sys2Proof.Claims

open Sys2Proof.Machine

/-! ### Words the statements share -/

/-- The set that holds taker t alone. -/
def oneTaker (t : Taker) : TakerSet := 1#4 <<< t.val

/-- Bits 7:0 of a word written to a taker window (10.3). -/
def low8 (v : Word) : Nat := (v.extractLsb' 0 8).toNat

/-- One report of culprit w to row r, as R165 gives it, and no change of another row. -/
def ReportedOnce (s t : State) (r : CondRow) (w : Culprit) : Prop :=
  (t.cond r).latched = true ∧
    (t.cond r).count.toNat = min 255 ((s.cond r).count.toNat + 1) ∧
    (t.cond r).culprit = (if (s.cond r).count.toNat = 0 then some w else (s.cond r).culprit) ∧
    (t.cond r).enabled = (s.cond r).enabled ∧
    ∀ r' : CondRow, r' ≠ r → t.cond r' = s.cond r'

/-- The record of an entry after an occurrence, by the table of R10. -/
def afterOccurrence (b : Entry) : Entry :=
  let hits := BitVec.ofNat 16 (min 65535 (b.hits.toNat + 1))
  match b.phase with
  | .dormant => b
  | .armed => { b with phase := .raised, reoffered := false, hits := hits }
  | .raised => { b with hits := hits }
  | .held v => { b with phase := .held { v with again := true }, hits := hits }
  | .retiring _ => b

/-- The record of an entry after a lapse, by the table of R11. -/
def afterLapse (b : Entry) : Entry :=
  match b.phase with
  | .dormant => b
  | .armed => b
  | .raised => { b with phase := .armed }
  | .held v => { b with phase := .held { v with again := false } }
  | .retiring _ => b

/-- The threshold of taker t (R36): the greater of its floor and the present level of its top entry. -/
def thresholdOf (s : State) (t : Taker) : Nat :=
  match s.stack t with
  | [] => (s.port t).floor.val
  | e :: _ =>
    match s.entry e with
    | none => (s.port t).floor.val
    | some b => Nat.max (s.port t).floor.val b.level.val

/-- Entry e is the offer for taker t: the first entry of the walk of R38 whose eligible set contains t. -/
def FirstEligible (s : State) (t : Taker) (e : EntryNo) : Prop :=
  ∃ (k : Level) (before after : List EntryNo),
    thresholdOf s t < k.val ∧ s.queue k = before ++ e :: after ∧ s.eligible t e = true ∧
      (∀ x ∈ before, s.eligible t x = false) ∧
      ∀ k' : Level, k < k' → ∀ x ∈ s.queue k', s.eligible t x = false

/-- No entry above the threshold of taker t has t in its eligible set. -/
def NoEligible (s : State) (t : Taker) : Prop :=
  ∀ k : Level, thresholdOf s t < k.val → ∀ x ∈ s.queue k, s.eligible t x = false

/-- Taker t is the first of a group that the arbiter passes when its pointer names p (R43): counting upward
from p + 1 and from 3 back to 0, with p itself last, no taker of the group comes before t. -/
def FirstPassed (p : Taker) (group : TakerSet) (t : Taker) : Prop :=
  group.getLsbD t.val = true ∧
    ∃ turn : Fin 4, t = p + 1 + turn ∧
      ∀ earlier : Fin 4, earlier < turn → group.getLsbD (p + 1 + earlier).val = false

/-- Taker t is the last of the group in the same order. -/
def LastPassed (p : Taker) (group : TakerSet) (t : Taker) : Prop :=
  group.getLsbD t.val = true ∧
    ∃ turn : Fin 4, t = p + 1 + turn ∧
      ∀ later : Fin 4, turn < later → group.getLsbD (p + 1 + later).val = false

/-- The slot is IDLE, RESETn is released, and the command record holds this command code (R146). -/
def Ready (s : State) (code : CommandCode) : Prop :=
  s.inReset = false ∧ s.slot = .idle ∧ s.commandCode = code

/-- The commands that are a write to GO. -/
def isGoWrite : Instr → Bool
  | .undefinedCommand _ => true
  | .bind _ => true
  | .amend _ => true
  | .retire _ => true
  | .lookup _ => true
  | .find _ => true
  | .sweep _ => true
  | .postCommand _ => true
  | .permit _ => true
  | .takerEnable _ => true
  | .takerHalt _ => true
  | .takerNone _ => true
  | .takerBadAction _ => true
  | .start _ => true
  | .stop _ => true
  | .mode _ => true
  | .divisor _ => true
  | .stringBadAction _ => true
  | .limit _ => true
  | .condition _ => true
  | .resetDirectory _ => true
  | .goWhileBusy _ => true
  | _ => false

/-- The commands that are a write to another word of the bus. -/
def isWindowWrite : Instr → Bool
  | .done _ _ => true
  | .yield _ _ => true
  | .floor _ _ => true
  | .post _ _ => true
  | .treset _ _ => true
  | .ignoredWrite _ _ => true
  | .cmdWrite _ _ => true
  | .mctlWrite _ => true
  | _ => false

/-- The port of taker t after an answered write, and every other port unchanged; `word` is the change the
write makes to its read-back value. -/
def PortAnswered (s s' : State) (t : Taker) (a : Answer) (word : TakerPort → TakerPort) : Prop :=
  s'.port t = word { s.port t with answer := a } ∧ ∀ t', t' ≠ t → s'.port t' = s.port t'

/-- RES1 of a result that names an entry: the number in 6:0 and the present bit 31 (10.6). -/
def presentEntry (e : EntryNo) : Word := BitVec.ofNat 32 (2147483648 + e.val)

/-- RES1 of a result that names an entry and its state code (10.6). -/
def entryAndState (e : EntryNo) (code : Nat) : Word := BitVec.ofNat 32 (e.val + 256 * code)

/-- The values that make a LIMIT out of range (R78, 10.5). -/
def LimitOutOfRange (s : State) : Prop :=
  ((s.cmd[1]).getLsbD 8 = true ∧
    ((s.cmd[1]).extractLsb' 0 3 = 0#3 ∨ (s.cmd[2]).extractLsb' 0 16 = 0#16 ∨
      2 ≤ ((s.cmd[2]).extractLsb' 16 2).toNat)) ∨
  ((s.cmd[1]).getLsbD 9 = true ∧ ((s.cmd[3]).extractLsb' 0 16).toNat < 16)

/-- The values that make a CONDITION out of range (R167, 10.5). -/
def ConditionOutOfRange (s : State) : Prop :=
  (s.cmd[1]).extractLsb' 9 7 ≠ 0#7 ∨ (s.cmd[2]).extractLsb' 9 7 ≠ 0#7 ∨
    2 ≤ ((s.cmd[3]).extractLsb' 16 2).toNat ∨
    ((s.cmd[3]).extractLsb' 16 2 = 1#2 ∧ (s.cmd[3]).extractLsb' 9 7 ≠ 0#7)

/-- The part of an entry's record that its string's good scan finds (R112, R113, R115): `samples` has bit i
set where bit time i was sampled low, `history` is the slot history. -/
def scanEffect (n : StringNo) (samples : BitVec 54) (history : BitVec 24) (b : Entry) : Entry :=
  match b.key with
  | .posted _ => b
  | .wire n' k m =>
    if n' ≠ n then b
    else
      match m, b.sense with
      | none, .edge =>
        if samples.getLsbD (5 + 2 * k.val) && !history.getLsbD k.val then afterOccurrence b else b
      | none, .level =>
        if samples.getLsbD (5 + 2 * k.val) then afterOccurrence b else afterLapse b
      | some _, .edge => b
      | some _, .level => if samples.getLsbD (5 + 2 * k.val) then b else afterLapse b

/-- The same for a good roll call of slot k (R128, R129): `history` is the slot's mark history. -/
def rollCallEffect (n : StringNo) (k : SlotNo) (samples : BitVec 27) (history : BitVec 8) (b : Entry) :
    Entry :=
  match b.key with
  | .posted _ => b
  | .wire _ _ none => b
  | .wire n' k' (some m) =>
    if n' ≠ n ∨ k' ≠ k then b
    else
      match b.sense with
      | .edge =>
        if samples.getLsbD (10 + 2 * m.val) && !history.getLsbD m.val then afterOccurrence b else b
      | .level => if samples.getLsbD (10 + 2 * m.val) then afterOccurrence b else afterLapse b

/-- The entry that `f` changes from ARMED to RAISED, if it has this key and this level. -/
def raisedFor (s : State) (f : Entry → Entry) (k : Level) (key : Key) : Option EntryNo :=
  (List.finRange 96).find? fun e =>
    match s.entry e with
    | none => false
    | some b =>
      decide (b.key = key ∧ b.level = k ∧ b.phase = .armed ∧ (f b).phase = .raised)

/-- The queue of level k after an event that changes the entries by `f`, raising entries in the order of
`keys` (R29, R32, R34). -/
def queueAfter (s : State) (f : Entry → Entry) (keys : List Key) (k : Level) : List EntryNo :=
  ((s.queue k).filter fun e =>
    match s.entry e with
    | none => true
    | some b => decide ((f b).phase = .raised)) ++
  keys.filterMap (raisedFor s f k)

/-- Row STRAY after reports with these culprits, in their order (R165, R166); every other row unchanged. -/
def StraysReported (s t : State) (culprits : List Culprit) : Prop :=
  (∀ r, r ≠ .stray → t.cond r = s.cond r) ∧ (culprits = [] → t.cond .stray = s.cond .stray) ∧
    ∀ w ws, culprits = w :: ws →
      (t.cond .stray).latched = true ∧ (t.cond .stray).enabled = (s.cond .stray).enabled ∧
      (t.cond .stray).count.toNat = min 255 ((s.cond .stray).count.toNat + culprits.length) ∧
      (t.cond .stray).culprit =
        if (s.cond .stray).count.toNat = 0 then some w else (s.cond .stray).culprit

/-- Some bound entry names slot k of string n with a mark (R121). -/
def NamedWithMark (s : State) (n : StringNo) (k : SlotNo) : Prop :=
  ∃ e b m, s.entry e = some b ∧ b.key = .wire n k (some m)

/-- A scan is faulted (R96): a CODE bit or a GAP bit was sampled low. -/
def ScanFaulted (samples : BitVec 54) : Prop :=
  samples.getLsbD 3 = true ∨ samples.getLsbD 4 = true ∨
    ∃ k : Fin 24, samples.getLsbD (6 + 2 * k.val) = true

/-- A roll call of slot k is faulted (R124): a SLOT NUMBER bit of value 0, most significant bit first from
bit time 5, or a GAP bit was sampled low. -/
def RollCallFaulted (k : SlotNo) (samples : BitVec 27) : Prop :=
  (∃ j : Fin 5, k.val.testBit (4 - j.val) = false ∧ samples.getLsbD (5 + j.val) = true) ∨
    ∃ m : Fin 8, samples.getLsbD (11 + 2 * m.val) = true

/-- The source filter word of a SWEEP is refused (R159, 10.5): its code names none of the six, or the string
or the slot that its code uses is out of range. -/
def FilterRefused (w : Word) : Prop :=
  w.extractLsb' 0 3 = 6#3 ∨ w.extractLsb' 0 3 = 7#3 ∨
    ((w.extractLsb' 0 3 = 2#3 ∨ w.extractLsb' 0 3 = 3#3) ∧ w.extractLsb' 8 2 = 3#2) ∨
    (w.extractLsb' 0 3 = 3#3 ∧ 24 ≤ (w.extractLsb' 16 5).toNat)

/-- The source filter that a word names (R159), by the bits of 10.5: the code in 2:0, the string in 9:8, the
slot in 20:16 and the channel in 27:24. -/
def FilterNamed (w : Word) (f : SourceFilter) : Prop :=
  (f = .any ∧ w.extractLsb' 0 3 = 0#3) ∨ (f = .wire ∧ w.extractLsb' 0 3 = 1#3) ∨
    (∃ n, f = .wireString n ∧ w.extractLsb' 0 3 = 2#3 ∧ n.val = (w.extractLsb' 8 2).toNat) ∨
    (∃ n k, f = .wireSlot n k ∧ w.extractLsb' 0 3 = 3#3 ∧ n.val = (w.extractLsb' 8 2).toNat ∧
      k.val = (w.extractLsb' 16 5).toNat) ∨
    (f = .posted ∧ w.extractLsb' 0 3 = 4#3) ∨
    ∃ c, f = .postedChannel c ∧ w.extractLsb' 0 3 = 5#3 ∧ c.val = (w.extractLsb' 24 4).toNat

/-- The word at offset 4j of the window of taker t, as A8 to A2 choose it (10.1). -/
def takerAddress (t : Taker) (j : Nat) : BitVec 7 := BitVec.ofNat 7 (16 * t.val + j)

/-- The word at offset 4j of the management window. -/
def mgmtAddress (j : Nat) : BitVec 7 := BitVec.ofNat 7 (64 + j)

/-- The bits of CMD0 to CMD7 that some layout of 10.5 assigns: the command code; bits 15:0; every bit, the mask
of a PERMIT; bits 15:0, 18:16 and 24; bits 15:0, 20:16 and 27:24; and none of CMD5 to CMD7. -/
def cmdAssigned : Vector Word 8 :=
  #v[0x0000000F#32, 0x0000FFFF#32, 0xFFFFFFFF#32, 0x0107FFFF#32, 0x0F1FFFFF#32, 0#32, 0#32, 0#32]

/-- The addresses that hold no word (10.1): 24H to 3CH of a taker window, 30H to 3CH of the management window,
and 180H to 1FFH. -/
def NoWord (a : BitVec 7) : Prop :=
  (a.toNat < 64 ∧ 9 ≤ a.toNat % 16) ∨ (76 ≤ a.toNat ∧ a.toNat < 80) ∨ 96 ≤ a.toNat

/-- An examined entry matches a SWEEP (R160). -/
def Matches (r : SweepRun) (o : Option Entry) : Prop :=
  match o with
  | none => r.states.getLsbD 0 = true ∧ r.filter = .any
  | some b =>
    r.states.getLsbD (stateCode (some b)) = true ∧ r.low ≤ b.level ∧ b.level ≤ r.high ∧
      (r.filter = .any ∨
        (∃ n k m, b.key = .wire n k m ∧
          (r.filter = .wire ∨ r.filter = .wireString n ∨ r.filter = .wireSlot n k)) ∨
        ∃ c, b.key = .posted c ∧ (r.filter = .posted ∨ r.filter = .postedChannel c))

end Sys2Proof.Claims

open Sys2Proof Sys2Proof.Machine Sys2Proof.Claims

/-! ### The step -/

/-- The step takes the command at the front and runs exec on it with the queue's rest (log 1). -/
def Obligations.StepRunsTheFrontCommand : Prop :=
  ∀ (c : Instr) (s : State), step { s with pending := c :: s.pending } = exec c s

/-- The model's choice (log 2): on an empty queue a step is one REFCLK period, which moves the clocks of
RUNNING strings (R94) and the prescaler, with a tick at its P-th period (R77). -/
def Obligations.EmptyQueueStepIsOneRefclkPeriod : Prop :=
  ∀ s : State, s.pending = [] →
    ∃ t, step s = .next t ∧
      t = { s with entries := t.entries, strings := t.strings, prescaleCount := t.prescaleCount } ∧
      (s.inReset = true → t = s) ∧
      (s.inReset = false →
        (∀ n : StringNo,
          t.string n =
            if (s.string n).state = .running then
              { s.string n with clock := (s.string n).clock + 1 }
            else s.string n) ∧
        (s.prescaleCount + 1 < s.prescaler.toNat →
          t.prescaleCount = s.prescaleCount + 1 ∧ t.entries = s.entries) ∧
        (s.prescaler.toNat ≤ s.prescaleCount + 1 →
          t.prescaleCount = 0 ∧ ∀ e, t.entry e = (s.entry e).map Entry.tick))

/-- The model's choice (logs 4, 5, 7): every command answers a next state in every state, but RESETN_RELEASE
after RESETn was held for fewer than 16 REFCLK periods, whose state R175 leaves undefined (log 7). That an
internal event outside its moment answers at all is log 4, and that a CLAIM of no taker does is log 5. -/
def Obligations.EveryCommandCompletesButTooShortReset : Prop :=
  ∀ (i : Instr) (s : State),
    (∀ held, i = .resetnRelease held → s.inReset = true → 16 ≤ held) → ∃ t, exec i s = .next t

/-! ### Reset -/

/-- POWER_ON and RESETN_ASSERT leave every block at the values its chapter gives, and a release after 16
REFCLK periods or more keeps them, with the prescaler count starting afresh (R77). The model's choices:
no CLAIM, PEEK or MSTAT word is recorded (log 6), and a release after fewer than 16 periods, whose state
R175 leaves undefined, stops the run (log 7). -/
def Obligations.ResetTakesEveryBlockToItsResetValues : Prop :=
  (∀ (s : State) (held : Nat), s.inReset = true →
    (16 ≤ held →
      exec (.resetnRelease held) s = .next { s with inReset := false, prescaleCount := 0 }) ∧
    (held < 16 → exec (.resetnRelease held) s = .fault .shortReset)) ∧
  ∀ s : State, ∃ t, exec .powerOn s = .next t ∧ exec .resetnAssert s = .next t ∧
    t.pending = s.pending ∧ t.inReset = true ∧
    (∀ e, t.entry e = none) ∧ (∀ k, t.queue k = []) ∧ (∀ k, t.stack k = []) ∧
    (∀ k, t.withdrawnOf k = []) ∧ t.arbiter = 3 ∧
    (∀ k, (t.port k).enabled = false ∧ (t.port k).floor = 0 ∧ (t.port k).answer = .ok ∧
      (t.port k).lastDone = 0#32 ∧ (t.port k).lastYield = 0#32 ∧ (t.port k).lastPost = 0#32 ∧
      (t.port k).lastTreset = 0#32 ∧ (t.port k).readData = none) ∧
    (∀ r : Fin 7, t.limits[r] = { duration := 1000#16, policy := .note }) ∧
    t.prescaler = 320#16 ∧ t.prescaleCount = 0 ∧
    (∀ n, (t.string n).state = .off ∧ (t.string n).mode = .continuous ∧
      (t.string n).divisor = 64#10 ∧ (t.string n).faults = 0 ∧ (t.string n).stopPending = false ∧
      (t.string n).pendingMode = none ∧ (t.string n).history = 0#24 ∧
      (t.string n).rollCalls = [] ∧ (∀ k : Fin 24, (t.string n).marks[k] = 0#8) ∧
      (t.string n).cycle = none) ∧
    (∀ c : Fin 16, t.masks[c] = 0#4) ∧ (∀ k : Fin 8, t.cmd[k] = 0#32) ∧
    (∀ k : Fin 16, t.res[k] = 0#32) ∧ t.slot = .idle ∧ t.lastCommand = none ∧
    t.resultCode = .ok ∧ t.doneFlag = false ∧ t.doneEnable = false ∧ t.mstatData = none ∧
    (∀ r, t.cond r = { latched := false, count := 0#8, culprit := none, enabled := false }) ∧
    (∀ k, t.tkalert k = false) ∧ t.malert = false

/-- A write to a word that takes none changes nothing (R49, R144, R172); while RESETn is asserted every write
is ignored and every read returns 0 (R172, R175). That the word read is kept is the model's choice (log
6). -/
def Obligations.IgnoredWritesAndAccessesInReset : Prop :=
  (∀ (s : State) (a : BitVec 7) (v : Word), (Instr.ignoredWrite a v).wellFormed = true →
    exec (.ignoredWrite a v) s = .next s) ∧
  ∀ s : State, s.inReset = true →
    (∀ a, s.readWord a = 0#32) ∧
    (∀ i, (isGoWrite i || isWindowWrite i) = true → exec i s = .next s) ∧
    (∀ t, exec (.peek t) s = .next (s.setPort t { s.port t with readData := some 0#32 })) ∧
    (∀ group, ∃ s', exec (.claim group) s = .next s' ∧ s' = { s with takers := s'.takers } ∧
      ∀ t, s'.port t =
        if group.getLsbD t.val then { s.port t with readData := some 0#32 } else s.port t) ∧
    exec .mstatRead s = .next { s with mstatData := some 0#32 }

/-! ### The offer -/

/-- R37: the word that a CLAIM or a PEEK returns, by the first case that applies. -/
def Obligations.ClaimAndPeekAnswerByFirstCase : Prop :=
  ∀ (s : State) (t : Taker) (i : Instr), s.inReset = false →
    (i = .peek t ∨ i = .claim (oneTaker t)) →
    ∃ s' w, exec i s = .next s' ∧ (s'.port t).readData = some w ∧
      (s.clearing = true → w = 0x30000000#32) ∧
      (s.clearing = false → (s.port t).enabled = false → w = 0x20000000#32) ∧
      (s.clearing = false → (s.port t).enabled = true → 4 ≤ (s.stack t).length →
        w = 0x10000000#32) ∧
      (s.clearing = false → (s.port t).enabled = true → (s.stack t).length < 4 →
        (∀ e, FirstEligible s t e →
          ∃ b, s.entry e = some b ∧ w.getLsbD 31 = true ∧ w.extractLsb' 28 3 = 0#3 ∧
            w.getLsbD 27 = b.reoffered ∧ (w.extractLsb' 20 7).toNat = e.val ∧
            (w.extractLsb' 16 4).toNat = b.level.val ∧ w.extractLsb' 0 16 = b.tag) ∧
        (NoEligible s t → w = 0#32))

/-- R38: the walk names the first entry, from level 15 down to the threshold plus 1 and from head to tail,
whose eligible set contains the taker, and none exactly when there is none. -/
def Obligations.WalkNamesTheFirstEligibleEntry : Prop :=
  ∀ (s : State) (t : Taker),
    (∀ e, s.walk t = some e ↔ FirstEligible s t e) ∧ (s.walk t = none ↔ NoEligible s t)

/-- R45: TKALERT is asserted exactly when a PEEK would return an offer, and when the four conditions hold;
power-on and RESETn leave the taker HALTED, the queues empty and the line deasserted. -/
def Obligations.TakerAlertIsAsserted_IffPeekWouldOffer : Prop :=
  ∀ (s : State) (t : Taker),
    (s.inReset = false →
      (s.tkalert t = true ↔
        ∃ s' w, exec (.peek t) s = .next s' ∧ (s'.port t).readData = some w ∧
          w.getLsbD 31 = true)) ∧
    (s.tkalert t = true ↔
      s.clearing = false ∧ (s.port t).enabled = true ∧ (s.stack t).length < 4 ∧
        ∃ e, FirstEligible s t e) ∧
    ∀ s', exec .powerOn s = .next s' ∨ exec .resetnAssert s = .next s' →
      (s'.port t).enabled = false ∧ (∀ k, s'.queue k = []) ∧ s'.tkalert t = false

/-- R14, R40, R80: a CLAIM answered OFFER takes the entry out of its queue and makes it HELD on top of the
stack, with the limit of its class loaded, and its number leaves the taker's withdrawn list. -/
def Obligations.ClaimTakesTheOfferedEntry : Prop :=
  ∀ (s : State) (t : Taker) (e : EntryNo) (b : Entry), s.inReset = false → s.clearing = false →
    (s.port t).enabled = true → (s.stack t).length < 4 → FirstEligible s t e →
    s.entry e = some b →
    ∃ s' v, exec (.claim (oneTaker t)) s = .next s' ∧
      s' = { s with
        entries := s'.entries, queues := s'.queues, serviceStacks := s'.serviceStacks
        withdrawn := s'.withdrawn, arbiter := t, takers := s'.takers } ∧
      s'.entry e = some { b with phase := .held v } ∧
      v.holder = t ∧ v.expiries = 0 ∧ v.overdue = false ∧ v.stagedLevel = none ∧
      v.stagedDormancy = false ∧ v.again = false ∧
      (b.limitClass.val = 0 → v.limit = none) ∧
      (∀ r : Fin 7, b.limitClass.val = r.val + 1 →
        v.limit = some { row := r, remaining := (s.limits[r]).duration, expired := false }) ∧
      (∀ e', e' ≠ e → s'.entry e' = s.entry e') ∧
      (∀ k, s'.queue k = if k = b.level then (s.queue k).erase e else s.queue k) ∧
      (∀ t', s'.stack t' = if t' = t then e :: s.stack t else s.stack t') ∧
      (∀ t', s'.withdrawnOf t' =
        if t' = t then (s.withdrawnOf t).erase e else s.withdrawnOf t') ∧
      s'.port t = { s.port t with readData := (s'.port t).readData } ∧
      ∀ t', t' ≠ t → s'.port t' = s.port t'

/-- R39, R40, R57: a CLAIM answered NONE moves the pointer and nothing else; a PEEK moves nothing. The word
read is kept by the model alone (log 6). -/
def Obligations.PeekAndRefusedClaimMoveNothing : Prop :=
  ∀ (s : State) (t : Taker), s.inReset = false →
    (∃ w, exec (.peek t) s = .next (s.setPort t { s.port t with readData := some w })) ∧
    ((s.clearing = true ∨ (s.port t).enabled = false ∨ 4 ≤ (s.stack t).length ∨ NoEligible s t) →
      ∃ w, w.getLsbD 31 = false ∧
        exec (.claim (oneTaker t)) s =
          .next { s.setPort t { s.port t with readData := some w } with arbiter := t })

/-- R43: claims presented together are passed one at a time; the first is that of the first taker of the
group counting from the pointer plus 1 to 3 and back to 0, and the rest of the group meets the part as
that claim left it. -/
def Obligations.ClaimsTogetherPassRoundRobin : Prop :=
  ∀ (s : State) (group : TakerSet) (t : Taker), s.inReset = false →
    FirstPassed s.arbiter group t →
    ∃ s₁, exec (.claim (oneTaker t)) s = .next s₁ ∧
      exec (.claim group) s = exec (.claim (group &&& ~~~(oneTaker t))) s₁

/-- R42, R44: the pointer names taker 3 after power-on and RESETn and while RESETn is asserted, and claims
presented together then begin with taker 0; after a group it names the taker passed last, counting from
the pointer plus 1 to 3 and back to 0, and no other access moves it or shows it. -/
def Obligations.ArbiterPointerFollowsClaimsAlone : Prop :=
  (∀ s s' : State, exec .powerOn s = .next s' ∨ exec .resetnAssert s = .next s' →
    s'.arbiter = 3) ∧
  (∀ (s s' : State) (group : TakerSet), s.inReset = true → exec (.claim group) s = .next s' →
    s'.arbiter = s.arbiter) ∧
  (∀ (s : State) (group : TakerSet), s.inReset = false → s.arbiter = 3 →
    group.getLsbD 0 = true →
    ∃ s₁, exec (.claim (oneTaker 0)) s = .next s₁ ∧
      exec (.claim group) s = exec (.claim (group &&& ~~~(oneTaker 0))) s₁) ∧
  (∀ (s : State) (group : TakerSet) (t : Taker), s.inReset = false →
    LastPassed s.arbiter group t →
    ∃ s', exec (.claim group) s = .next s' ∧ s'.arbiter = t) ∧
  (∀ (i : Instr) (s s' : State), (∀ group, i ≠ .claim group) → i ≠ .powerOn → i ≠ .resetnAssert →
    exec i s = .next s' → s'.arbiter = s.arbiter) ∧
  ∀ (s : State) (p : Taker) (a : BitVec 7), ({ s with arbiter := p } : State).readWord a = s.readWord a

/-! ### The taker windows -/

/-- R50, R51, R58, R63: the answers to a DONE and to a YIELD, by the first case that applies; the port keeps
the answer and the word. -/
def Obligations.DoneAndYieldAnswerByFirstCase : Prop :=
  ∀ (s : State) (t : Taker) (v : Word), s.inReset = false →
    (∃ s' a, exec (.yield t v) s = .next s' ∧
      PortAnswered s s' t a (fun p => { p with lastYield := v }) ∧
      (95 < low8 v → a = .range ∧ s' = { s with takers := s'.takers }) ∧
      ∀ e : EntryNo, low8 v = e.val →
        (s.clearing = true → a = .notHeld) ∧
        (s.clearing = false → (s.stack t).head? = some e → a = .ok) ∧
        (s.clearing = false → (s.stack t).head? ≠ some e → e ∈ s.stack t → a = .order) ∧
        (s.clearing = false → e ∉ s.stack t → a = .notHeld)) ∧
    ∃ s' a, exec (.done t v) s = .next s' ∧
      PortAnswered s s' t a (fun p => { p with lastDone := v }) ∧
      (95 < low8 v → a = .range ∧ s' = { s with takers := s'.takers }) ∧
      ∀ e : EntryNo, low8 v = e.val →
        (s.clearing = true → a = .notHeld) ∧
        (s.clearing = false → (s.stack t).head? = some e → a = .ok) ∧
        (s.clearing = false → (s.stack t).head? ≠ some e → e ∈ s.stack t → a = .order) ∧
        (s.clearing = false → e ∉ s.stack t → e ∈ s.withdrawnOf t → a = .late) ∧
        (s.clearing = false → e ∉ s.stack t → e ∉ s.withdrawnOf t → a = .notHeld)

/-- R60: a DONE answered LATE removes the number from the taker's withdrawn list, makes one LATE report, and
changes nothing else. -/
def Obligations.LateDoneRemovesTheNumber : Prop :=
  ∀ (s : State) (t : Taker) (v : Word) (e : EntryNo), s.inReset = false → s.clearing = false →
    low8 v = e.val → e ∉ s.stack t → e ∈ s.withdrawnOf t →
    ∃ s', exec (.done t v) s = .next s' ∧
      s' = { s with
        withdrawn := s'.withdrawn, takers := s'.takers, conditions := s'.conditions } ∧
      PortAnswered s s' t .late (fun p => { p with lastDone := v }) ∧
      (∀ t', s'.withdrawnOf t' =
        if t' = t then (s.withdrawnOf t).erase e else s.withdrawnOf t') ∧
      ReportedOnce s s' .late (.entry e) ∧
      s'.threshold t = s.threshold t ∧ s'.tkalert t = s.tkalert t

/-- R61, R63: a DONE or a YIELD answered ORDER or NOTHELD changes no entry, stack, list, queue, threshold or
alert line, and makes one report to PROTOCOL. -/
def Obligations.MisplacedDoneOrYieldOnlyReports : Prop :=
  ∀ (s : State) (t : Taker) (v : Word) (e : EntryNo), s.inReset = false → low8 v = e.val →
    (s.clearing = true ∨ (s.stack t).head? ≠ some e) →
    ((s.clearing = true ∨ e ∈ s.stack t ∨ e ∉ s.withdrawnOf t) →
      ∃ s' a, exec (.done t v) s = .next s' ∧ (a = .order ∨ a = .notHeld) ∧
        s' = { s with takers := s'.takers, conditions := s'.conditions } ∧
        PortAnswered s s' t a (fun p => { p with lastDone := v }) ∧
        ReportedOnce s s' .protocol (.taker t) ∧
        ∀ t', s'.threshold t' = s.threshold t' ∧ s'.tkalert t' = s.tkalert t') ∧
    ∃ s' a, exec (.yield t v) s = .next s' ∧ (a = .order ∨ a = .notHeld) ∧
      s' = { s with takers := s'.takers, conditions := s'.conditions } ∧
      PortAnswered s s' t a (fun p => { p with lastYield := v }) ∧
      ReportedOnce s s' .protocol (.taker t) ∧
      ∀ t', s'.threshold t' = s.threshold t' ∧ s'.tkalert t' = s.tkalert t'

/-- R15, R16, R18, R59: a DONE answered OK takes the top entry off the stack; HELD, it becomes DORMANT,
RAISED at the tail of its queue, or ARMED, with the staged level applied and reoffered cleared;
RETIRING, it is freed. -/
def Obligations.DoneEndsTheTopService : Prop :=
  ∀ (s : State) (t : Taker) (v : Word) (e : EntryNo) (below : List EntryNo) (b : Entry),
    s.inReset = false → s.clearing = false → low8 v = e.val → s.stack t = e :: below →
    s.entry e = some b →
    ∃ s', exec (.done t v) s = .next s' ∧
      s' = { s with
        entries := s'.entries, queues := s'.queues, serviceStacks := s'.serviceStacks
        takers := s'.takers } ∧
      PortAnswered s s' t .ok (fun p => { p with lastDone := v }) ∧
      (∀ t', s'.stack t' = if t' = t then below else s.stack t') ∧
      (∀ e', e' ≠ e → s'.entry e' = s.entry e') ∧
      (∀ w, b.phase = .retiring w → s'.entry e = none ∧ s'.queues = s.queues) ∧
      ∀ (w : Service) (k : Level), b.phase = .held w → k = w.stagedLevel.getD b.level → k ≠ 0 →
        (w.stagedDormancy = true →
          s'.entry e = some { b with level := k, reoffered := false, phase := .dormant } ∧
            s'.queues = s.queues) ∧
        (w.stagedDormancy = false → w.again = true →
          s'.entry e = some { b with level := k, reoffered := false, phase := .raised } ∧
            ∀ k', s'.queue k' = if k' = k then s.queue k ++ [e] else s.queue k') ∧
        (w.stagedDormancy = false → w.again = false →
          s'.entry e = some { b with level := k, reoffered := false, phase := .armed } ∧
            s'.queues = s.queues)

/-- R15, R17, R18, R63: a YIELD answered OK takes the top entry off the stack; HELD, it becomes DORMANT or
RAISED at the head of its queue with reoffered set; RETIRING, it is freed. -/
def Obligations.YieldReturnsTheTopEntry : Prop :=
  ∀ (s : State) (t : Taker) (v : Word) (e : EntryNo) (below : List EntryNo) (b : Entry),
    s.inReset = false → s.clearing = false → low8 v = e.val → s.stack t = e :: below →
    s.entry e = some b →
    ∃ s', exec (.yield t v) s = .next s' ∧
      s' = { s with
        entries := s'.entries, queues := s'.queues, serviceStacks := s'.serviceStacks
        takers := s'.takers } ∧
      PortAnswered s s' t .ok (fun p => { p with lastYield := v }) ∧
      (∀ t', s'.stack t' = if t' = t then below else s.stack t') ∧
      (∀ e', e' ≠ e → s'.entry e' = s.entry e') ∧
      (∀ w, b.phase = .retiring w → s'.entry e = none ∧ s'.queues = s.queues) ∧
      ∀ (w : Service) (k : Level), b.phase = .held w → k = w.stagedLevel.getD b.level → k ≠ 0 →
        (w.stagedDormancy = true →
          s'.entry e = some { b with level := k, phase := .dormant } ∧ s'.queues = s.queues) ∧
        (w.stagedDormancy = false →
          s'.entry e = some { b with level := k, reoffered := true, phase := .raised } ∧
            ∀ k', s'.queue k' = if k' = k then e :: s.queue k else s.queue k')

/-- R68: a FLOOR write of 0 to 15 sets the floor and is answered OK, a greater value is answered RANGE and
leaves it; a read returns it; nothing but FLOOR, TRESET, power-on and RESETn changes it. -/
def Obligations.FloorChangesByItsOwnWrites : Prop :=
  (∀ (s : State) (t : Taker) (v : Word), s.inReset = false →
    (∀ k : Level, low8 v = k.val →
      exec (.floor t v) s = .next (s.setPort t { s.port t with answer := .ok, floor := k })) ∧
    (15 < low8 v → exec (.floor t v) s = .next (s.setPort t { s.port t with answer := .range })) ∧
    (s.readWord (BitVec.ofNat 7 (16 * t.val + 4))).toNat = (s.port t).floor.val) ∧
  (∀ (s s' : State) (t : Taker) (v : Word), s.inReset = false → exec (.treset t v) s = .next s' →
    (s'.port t).floor = 0) ∧
  (∀ (s s' : State) (t : Taker), exec .powerOn s = .next s' ∨ exec .resetnAssert s = .next s' →
    (s'.port t).floor = 0) ∧
  ∀ (i : Instr) (s s' : State) (t : Taker), i.wellFormed = true → (∀ v, i ≠ .floor t v) →
    (∀ v, i ≠ .treset t v) → i ≠ .powerOn → i ≠ .resetnAssert → exec i s = .next s' →
    (s'.port t).floor = (s.port t).floor

/-- R136: a POST is decided by the mask first and the binding next, with one occurrence, one DENIED report
or one STRAY report; a channel above 15 never reaches the table. -/
def Obligations.PostIsDecidedByMaskThenBinding : Prop :=
  ∀ (s : State) (t : Taker) (v : Word), s.inReset = false →
    ∃ s' a, exec (.post t v) s = .next s' ∧
      PortAnswered s s' t a (fun p => { p with lastPost := v }) ∧
      (15 < low8 v → a = .range ∧ s' = { s with takers := s'.takers }) ∧
      ∀ c : Channel, low8 v = c.val →
        ((s.masks[c]).getLsbD t.val = false →
          a = .denied ∧ s' = { s with takers := s'.takers, conditions := s'.conditions } ∧
            ReportedOnce s s' .denied (.takerChannel t c)) ∧
        ((s.masks[c]).getLsbD t.val = true → (∀ e, s.hasKey (.posted c) e = false) →
          a = .noChannel ∧ s' = { s with takers := s'.takers, conditions := s'.conditions } ∧
            ReportedOnce s s' .stray (.channel c)) ∧
        ((s.masks[c]).getLsbD t.val = true →
          ∀ e, (∀ e', s.hasKey (.posted c) e' = true ↔ e' = e) →
            a = .ok ∧ s' = { s.occurrence e with takers := s'.takers })

/-- R6, R10, R11, R27, R30, R34: what an occurrence and a lapse do to an entry and to its queue, by the
entry's state, and that both are discarded while the directory is clearing. -/
def Obligations.OccurrenceAndLapseActByState : Prop :=
  ∀ (s : State) (e : EntryNo) (b : Entry), s.entry e = some b → b.level ≠ 0 →
    (s.clearing = true → s.occurrence e = s ∧ s.lapse e = s) ∧
    (s.clearing = false →
      s.occurrence e =
        { s with entries := (s.occurrence e).entries, queues := (s.occurrence e).queues } ∧
      (∀ e', (s.occurrence e).entry e' =
        if e' = e then some (afterOccurrence b) else s.entry e') ∧
      (∀ k, (s.occurrence e).queue k =
        if b.phase = .armed ∧ k = b.level then s.queue k ++ [e] else s.queue k) ∧
      s.lapse e = { s with entries := (s.lapse e).entries, queues := (s.lapse e).queues } ∧
      (∀ e', (s.lapse e).entry e' = if e' = e then some (afterLapse b) else s.entry e') ∧
      ∀ k, (s.lapse e).queue k =
        if b.phase = .raised ∧ k = b.level then (s.queue k).erase e else s.queue k)

/-- R17, R31, R70, R71: a TRESET gives every entry of the stack back from top to bottom, empties the stack
and the withdrawn list and sets the floor to 0; while clearing it moves no entry. -/
def Obligations.TresetReturnsTheWholeStack : Prop :=
  ∀ (s : State) (t : Taker) (v : Word), s.inReset = false →
    ∃ s', exec (.treset t v) s = .next s' ∧
      s' = { s with
        entries := s'.entries, queues := s'.queues, serviceStacks := s'.serviceStacks
        withdrawn := s'.withdrawn, takers := s'.takers } ∧
      PortAnswered s s' t .ok (fun p => { p with floor := 0, lastTreset := v }) ∧
      (∀ t', s'.withdrawnOf t' = if t' = t then [] else s.withdrawnOf t') ∧
      (s.clearing = true →
        s'.entries = s.entries ∧ s'.queues = s.queues ∧ s'.serviceStacks = s.serviceStacks) ∧
      (s.clearing = false → (s.stack t).Nodup →
        (∀ t', s'.stack t' = if t' = t then [] else s.stack t') ∧
        (∀ e, e ∉ s.stack t → s'.entry e = s.entry e) ∧
        (∀ e b w, e ∈ s.stack t → s.entry e = some b → b.phase = .retiring w →
          s'.entry e = none) ∧
        (∀ e b w, e ∈ s.stack t → s.entry e = some b → b.phase = .held w →
          s'.entry e =
            if w.stagedDormancy then
              some { b with level := w.stagedLevel.getD b.level, phase := .dormant }
            else
              some { b with
                level := w.stagedLevel.getD b.level, reoffered := true, phase := .raised }) ∧
        ∀ k : Level, k ≠ 0 →
          s'.queue k =
            ((s.stack t).reverse.filter fun e =>
              match s.entry e with
              | none => false
              | some b =>
                match b.phase with
                | .held w => !w.stagedDormancy && w.stagedLevel.getD b.level == k
                | _ => false) ++ s.queue k)

/-! ### The management window -/

/-- R148: while the slot is BUSY, a write to GO or to the command area makes one report to COLLISION, with
the command in flight as culprit, and changes nothing else; once it is IDLE, the write is taken. -/
def Obligations.WritesWhileBusyCollide : Prop :=
  (∀ (s : State) (i : Instr), s.inReset = false → s.busy = true →
    (isGoWrite i = true ∨ ∃ k v, i = .cmdWrite k v) →
    ∃ s', exec i s = .next s' ∧ s' = { s with conditions := s'.conditions } ∧
      (∀ r, s.slot = .sweep r → ReportedOnce s s' .collision (.command 6#4)) ∧
      ∀ n, s.slot = .resetDirectory n → ReportedOnce s s' .collision (.command 13#4)) ∧
  (∀ (s : State) (k : Fin 8) (v : Word), s.inReset = false → s.slot = .idle →
    exec (.cmdWrite k v) s = .next { s with cmd := s.cmd.set k.val v k.isLt }) ∧
  ∀ (s : State) (i : Instr), s.inReset = false → s.slot = .idle → isGoWrite i = true →
    exec i s = .next (s.runRow (recordRow s))

/-- R149: a read of MSTAT returns the slot state, the command, the result code and the done flag as they
stand, and clears the done flag. R150: a write to MCTL sets the done-alert enable in either state of the
slot, a read returns it, and the done request holds while both are set. That the word read is kept is
the model's choice (log 6). -/
def Obligations.MstatReadAndMctlWrite : Prop :=
  (∀ (s : State) (v : Word), s.inReset = false →
    exec (.mctlWrite v) s = .next { s with doneEnable := v.getLsbD 0 } ∧
    s.readWord 75#7 = (if s.doneEnable then 1#32 else 0#32) ∧
    (s.doneRequest = true ↔ s.doneFlag = true ∧ s.doneEnable = true)) ∧
  ∀ s : State, s.inReset = false →
    ∃ w, exec .mstatRead s = .next { s with mstatData := some w, doneFlag := false } ∧
      w.getLsbD 0 = s.busy ∧ w.getLsbD 1 = s.doneFlag ∧
      (s.slot = .idle → w.extractLsb' 8 4 = s.lastCommand.getD 0#4) ∧
      (∀ r, s.slot = .sweep r → w.extractLsb' 8 4 = 6#4) ∧
      (∀ n, s.slot = .resetDirectory n → w.extractLsb' 8 4 = 13#4) ∧
      (w.extractLsb' 16 4).toNat = s.resultCode.code

/-- R170: MALERT is asserted exactly while some row's latched flag and alert enable are both set or the
done request is raised. -/
def Obligations.ManagementAlertHasTwoCauses : Prop :=
  ∀ s : State,
    s.malert = true ↔
      (∃ r, (s.cond r).latched = true ∧ (s.cond r).enabled = true) ∨
        (s.doneFlag = true ∧ s.doneEnable = true)

/-- R165: a report sets the row's flag, adds 1 to its count up to 255, keeps the first culprit, and changes
no other row, no enable and no other block. -/
def Obligations.ReportKeepsTheFirstCulprit : Prop :=
  ∀ (s : State) (r : CondRow) (w : Culprit),
    s.report r w = { s with conditions := (s.report r w).conditions } ∧
      ReportedOnce s (s.report r w) r w

/-- R147, R174: a completion writes all sixteen result words, makes the slot IDLE, keeps the command and
its result code and sets the done flag. -/
def Obligations.CompletionWritesTheResultWhole : Prop :=
  ∀ (s : State) (c : CommandCode) (r : ResultCode) (ws : List Word), ws.length ≤ 15 →
    s.complete c r ws =
      { s with
        res := (s.complete c r ws).res, slot := .idle, lastCommand := some c, resultCode := r
        doneFlag := true } ∧
    ((s.complete c r ws).res[0]).toNat = c.toNat + 256 * r.code ∧
    ∀ (i : Fin 15),
      (s.complete c r ws).res[i.val + 1] = (if h : i.val < ws.length then ws[i.val] else 0#32)

/-- R146: a GO whose record names no command completes with BADFIELD and changes nothing else. -/
def Obligations.UndefinedCommandIsBadField : Prop :=
  ∀ (s : State) (go : Word) (c : CommandCode), Ready s c → (c = 0#4 ∨ c = 14#4 ∨ c = 15#4) →
    exec (.undefinedCommand go) s = .next (s.complete c .badField [])

/-! ### The directory commands -/

/-- R20, R173: the values that make a BIND out of range, and where each field of an accepted record
stands. -/
def Obligations.BindRecordIsCheckedAndRead : Prop :=
  ∀ s : State,
    (bindRecord s = none ↔
      ((s.cmd[1]).getLsbD 7 = false ∧ 96 ≤ ((s.cmd[1]).extractLsb' 0 7).toNat) ∨
      2 ≤ ((s.cmd[2]).extractLsb' 0 2).toNat ∨
      ((s.cmd[2]).extractLsb' 0 2 = 0#2 ∧
        ((s.cmd[2]).extractLsb' 4 2 = 3#2 ∨ 24 ≤ ((s.cmd[2]).extractLsb' 8 5).toNat)) ∨
      (s.cmd[3]).extractLsb' 0 4 = 0#4 ∨ (s.cmd[3]).extractLsb' 8 4 = 0#4 ∨
      ((s.cmd[2]).extractLsb' 0 2 = 1#2 ∧ (s.cmd[3]).getLsbD 4 = true)) ∧
    ∀ f, bindRecord s = some f →
      (f.target = none ↔ (s.cmd[1]).getLsbD 7 = true) ∧
      (∀ e, f.target = some e → e.val = ((s.cmd[1]).extractLsb' 0 7).toNat) ∧
      (∀ c, f.key = .posted c →
        (s.cmd[2]).extractLsb' 0 2 = 1#2 ∧ c.val = ((s.cmd[2]).extractLsb' 24 4).toNat) ∧
      (∀ n k m, f.key = .wire n k m →
        (s.cmd[2]).extractLsb' 0 2 = 0#2 ∧ n.val = ((s.cmd[2]).extractLsb' 4 2).toNat ∧
        k.val = ((s.cmd[2]).extractLsb' 8 5).toNat ∧
        (m = none ↔ (s.cmd[2]).getLsbD 19 = false) ∧
        ∀ j, m = some j → j.val = ((s.cmd[2]).extractLsb' 16 3).toNat) ∧
      f.level.val = ((s.cmd[3]).extractLsb' 0 4).toNat ∧
      f.sense = (if (s.cmd[3]).getLsbD 4 then .level else .edge) ∧
      f.eligible = (s.cmd[3]).extractLsb' 8 4 ∧
      f.limitClass.val = ((s.cmd[3]).extractLsb' 16 3).toNat ∧
      f.armed = (s.cmd[3]).getLsbD 24 ∧ f.tag = (s.cmd[4]).extractLsb' 0 16

/-- R8, R20, R21, R153: a BIND in range whose key meets R8 binds the FREE entry named, or the lowest FREE
entry for AUTO, DORMANT or ARMED, with hit count 0 and the flags clear. -/
def Obligations.BindBindsTheEntry : Prop :=
  ∀ (s : State) (go : Word) (f : BindRecord) (e : EntryNo), Ready s 1#4 → bindRecord s = some f →
    s.entry e = none →
    (f.target = some e ∨ (f.target = none ∧ ∀ e', e' < e → s.entry e' ≠ none)) →
    (∀ e' b, s.entry e' = some b → f.key.clash b.key = false) →
    ∃ s', exec (.bind go) s = .next s' ∧
      s' = ({ s with entries := s'.entries } : State).complete 1#4 .ok [presentEntry e] ∧
      s'.entry e =
        some
          { key := f.key, level := f.level, sense := f.sense, eligible := f.eligible, tag := f.tag
            limitClass := f.limitClass, reoffered := false, hits := 0#16
            phase := if f.armed then .armed else .dormant } ∧
      ∀ e', e' ≠ e → s'.entry e' = s.entry e'

/-- R20, R153: the refusals of a BIND, in the order of the checks, each of which changes nothing. -/
def Obligations.BindRefusalsChangeNothing : Prop :=
  ∀ (s : State) (go : Word), Ready s 1#4 →
    (bindRecord s = none → exec (.bind go) s = .next (s.complete 1#4 .badField [])) ∧
    ∀ f, bindRecord s = some f →
      (∀ e, f.target = some e → s.entry e ≠ none →
        exec (.bind go) s = .next (s.complete 1#4 .taken [presentEntry e])) ∧
      (f.target = none → (∀ e, s.entry e ≠ none) →
        exec (.bind go) s = .next (s.complete 1#4 .noRoom [])) ∧
      ∀ x b, ((∃ e, f.target = some e ∧ s.entry e = none) ∨
          (f.target = none ∧ ∃ e, s.entry e = none)) →
        s.entry x = some b → f.key.clash b.key = true →
        (∀ x' b', x' < x → s.entry x' = some b' → f.key.clash b'.key = false) →
        exec (.bind go) s = .next (s.complete 1#4 .keyClash [presentEntry x])

/-- R22, R23, R24, R25, R33: an AMEND of a DORMANT, ARMED or RAISED entry takes effect at once, with result
OK; a RAISED entry moves to the tail of its new level's queue, or leaves its queue when disabled. -/
def Obligations.AmendOutsideServiceActsAtOnce : Prop :=
  ∀ (s : State) (go : Word) (f : AmendRecord) (b : Entry) (k : Level), Ready s 2#4 →
    amendRecord s = some f → s.entry f.entry = some b → b.level ≠ 0 →
    (f.sense = some .level → b.key.isPosted = false) → k = f.level.getD b.level →
    (b.phase = .dormant ∨ b.phase = .armed ∨ b.phase = .raised) →
    ∃ s' p, exec (.amend go) s = .next s' ∧
      s' =
        ({ s with entries := s'.entries, queues := s'.queues } : State).complete 2#4 .ok
          [entryAndState f.entry (stateCode (s'.entry f.entry))] ∧
      s'.entry f.entry =
        some
          { b with
            level := k, sense := f.sense.getD b.sense, eligible := f.eligible.getD b.eligible
            tag := f.tag.getD b.tag, limitClass := f.limitClass.getD b.limitClass, phase := p } ∧
      (∀ e', e' ≠ f.entry → s'.entry e' = s.entry e') ∧
      (b.phase = .dormant → p = if f.enable = some true then .armed else .dormant) ∧
      (b.phase = .armed → p = if f.enable = some false then .dormant else .armed) ∧
      (b.phase = .raised → p = if f.enable = some false then .dormant else .raised) ∧
      (b.phase ≠ .raised → s'.queues = s.queues) ∧
      (b.phase = .raised → f.enable = some false →
        ∀ j, s'.queue j = if j = b.level then (s.queue j).erase f.entry else s.queue j) ∧
      (b.phase = .raised → f.enable ≠ some false → k = b.level → s'.queues = s.queues) ∧
      (b.phase = .raised → f.enable ≠ some false → k ≠ b.level →
        ∀ j, s'.queue j =
          if j = b.level then (s.queue j).erase f.entry
          else if j = k then s.queue j ++ [f.entry] else s.queue j)

/-- R22 to R25: an AMEND of a HELD entry stages the level and the enable state and changes the other named
fields at once; the result is STAGED when it names level or enable state, OK otherwise. -/
def Obligations.AmendOfHeldEntryIsStaged : Prop :=
  ∀ (s : State) (go : Word) (f : AmendRecord) (b : Entry) (w : Service), Ready s 2#4 →
    amendRecord s = some f → s.entry f.entry = some b → b.phase = .held w →
    (f.sense = some .level → b.key.isPosted = false) →
    ∃ s' w', exec (.amend go) s = .next s' ∧
      s' =
        ({ s with entries := s'.entries } : State).complete 2#4
          (if f.level = none ∧ f.enable = none then .ok else .staged) [entryAndState f.entry 4] ∧
      s'.entry f.entry =
        some
          { b with
            sense := f.sense.getD b.sense, eligible := f.eligible.getD b.eligible
            tag := f.tag.getD b.tag, limitClass := f.limitClass.getD b.limitClass
            phase := .held w' } ∧
      (∀ e', e' ≠ f.entry → s'.entry e' = s.entry e') ∧
      w' = { w with stagedLevel := w'.stagedLevel, stagedDormancy := w'.stagedDormancy } ∧
      (f.level = none → w'.stagedLevel = w.stagedLevel) ∧
      (∀ k, f.level = some k → w'.stagedLevel = if k = b.level then none else some k) ∧
      w'.stagedDormancy =
        if f.enable = some false then true
        else if f.enable = some true then false else w.stagedDormancy

/-- R22, R154, R173: where each field of an AMEND record stands, each named by its bit of the change mask; an
AMEND is refused with BADFIELD before the state is looked at, and with NOENTRY for a FREE or RETIRING
entry; a refusal changes nothing. -/
def Obligations.AmendRefusalsChangeNothing : Prop :=
  ∀ (s : State) (go : Word), Ready s 2#4 →
    (amendRecord s = none ↔
      96 ≤ ((s.cmd[1]).extractLsb' 0 7).toNat ∨ (s.cmd[2]).extractLsb' 8 5 ≠ 0#5 ∨
      ((s.cmd[2]).getLsbD 0 = true ∧ (s.cmd[3]).extractLsb' 0 4 = 0#4) ∨
      ((s.cmd[2]).getLsbD 2 = true ∧ (s.cmd[3]).extractLsb' 8 4 = 0#4)) ∧
    (amendRecord s = none → exec (.amend go) s = .next (s.complete 2#4 .badField [])) ∧
    ∀ f, amendRecord s = some f →
      f.entry.val = ((s.cmd[1]).extractLsb' 0 7).toNat ∧
      f.level.map Fin.val =
        (if (s.cmd[2]).getLsbD 0 then some ((s.cmd[3]).extractLsb' 0 4).toNat else none) ∧
      f.sense =
        (if (s.cmd[2]).getLsbD 1 then some (if (s.cmd[3]).getLsbD 4 then .level else .edge)
         else none) ∧
      f.eligible = (if (s.cmd[2]).getLsbD 2 then some ((s.cmd[3]).extractLsb' 8 4) else none) ∧
      f.tag = (if (s.cmd[2]).getLsbD 3 then some ((s.cmd[4]).extractLsb' 0 16) else none) ∧
      f.limitClass.map Fin.val =
        (if (s.cmd[2]).getLsbD 4 then some ((s.cmd[3]).extractLsb' 16 3).toNat else none) ∧
      f.enable = (if (s.cmd[2]).getLsbD 5 then some ((s.cmd[3]).getLsbD 24) else none) ∧
      (s.entry f.entry = none →
        exec (.amend go) s = .next (s.complete 2#4 .noEntry [entryAndState f.entry 0])) ∧
      ∀ b, s.entry f.entry = some b →
        (f.sense = some .level → b.key.isPosted = true →
          exec (.amend go) s = .next (s.complete 2#4 .badField [])) ∧
        (∀ w, (f.sense = some .level → b.key.isPosted = false) → b.phase = .retiring w →
          exec (.amend go) s = .next (s.complete 2#4 .noEntry [entryAndState f.entry 5]))

/-- R18, R26, R154: the effect and the result of a RETIRE, by the state of the entry it names. -/
def Obligations.RetireActsByState : Prop :=
  ∀ (s : State) (go : Word), Ready s 3#4 →
    (96 ≤ ((s.cmd[1]).extractLsb' 0 7).toNat →
      exec (.retire go) s = .next (s.complete 3#4 .badField [])) ∧
    ∀ e : EntryNo, ((s.cmd[1]).extractLsb' 0 7).toNat = e.val →
      (s.entry e = none →
        exec (.retire go) s = .next (s.complete 3#4 .noEntry [entryAndState e 0])) ∧
      ∀ b, s.entry e = some b →
        ((b.phase = .dormant ∨ b.phase = .armed) →
          exec (.retire go) s =
            .next ((s.setEntry e none).complete 3#4 .ok [entryAndState e 0])) ∧
        (b.phase = .raised →
          ∃ s', exec (.retire go) s = .next s' ∧
            s' =
              ({ s.setEntry e none with queues := s'.queues } : State).complete 3#4 .dropped
                [entryAndState e 0] ∧
            ∀ k, s'.queue k = if k = b.level then (s.queue k).erase e else s.queue k) ∧
        (∀ w, b.phase = .held w →
          exec (.retire go) s =
            .next
              ((s.setEntry e
                (some
                  { b with
                    phase := .retiring { w with again := false, stagedDormancy := false } })).complete
                3#4 .deferred [BitVec.ofNat 32 (e.val + 256 * 5 + 4096 * w.holder.val + 32768)])) ∧
        ∀ w, b.phase = .retiring w →
          exec (.retire go) s =
            .next
              (s.complete 3#4 .deferred
                [BitVec.ofNat 32 (e.val + 256 * 5 + 4096 * w.holder.val + 32768)])

/-- R158: a FIND answers the one bound entry that holds the key, with its state, or NOENTRY. R157 and
section 10.7: a LOOKUP of a bound entry returns every field of its record. Neither changes anything. -/
def Obligations.LookupAndFindReadTheDirectory : Prop :=
  (∀ (s : State) (go : Word), Ready s 5#4 →
    (keyField s.cmd[2] = none → exec (.find go) s = .next (s.complete 5#4 .badField [])) ∧
    ∀ key, keyField s.cmd[2] = some key →
      ((∀ e, s.hasKey key e = false) →
        exec (.find go) s = .next (s.complete 5#4 .noEntry [])) ∧
      ∀ e, (∀ e', s.hasKey key e' = true ↔ e' = e) →
        exec (.find go) s =
          .next (s.complete 5#4 .ok [entryAndState e (stateCode (s.entry e))])) ∧
  ∀ (s : State) (go : Word), Ready s 4#4 →
    (96 ≤ ((s.cmd[1]).extractLsb' 0 7).toNat →
      exec (.lookup go) s = .next (s.complete 4#4 .badField [])) ∧
    ∀ e : EntryNo, ((s.cmd[1]).extractLsb' 0 7).toNat = e.val →
      (s.entry e = none →
        exec (.lookup go) s = .next (s.complete 4#4 .noEntry [entryAndState e 0])) ∧
      ∀ b, s.entry e = some b →
        ∃ w1 w2 w3 w4 w5 : Word,
          exec (.lookup go) s = .next (s.complete 4#4 .ok [w1, w2, w3, w4, w5]) ∧
          w1.toNat = e.val + 256 * stateCode (some b) + (if b.key.isPosted then 4096 else 0) ∧
          (∀ n k, b.key = .wire n k none → w2.toNat = 16 * n.val + 256 * k.val) ∧
          (∀ n k m, b.key = .wire n k (some m) →
            w2.toNat = 16 * n.val + 256 * k.val + 65536 * m.val + 524288) ∧
          (∀ c, b.key = .posted c → w2.toNat = 16777216 * c.val) ∧
          (w3.extractLsb' 0 4).toNat = b.level.val ∧ w3.getLsbD 4 = decide (b.sense = .level) ∧
          w3.extractLsb' 8 4 = b.eligible ∧ (w3.extractLsb' 16 3).toNat = b.limitClass.val ∧
          w3.getLsbD 28 = b.reoffered ∧ w3.getLsbD 24 = (b.service.bind Service.stagedLevel).isSome ∧
          (w3.extractLsb' 20 4).toNat = ((b.service.bind Service.stagedLevel).getD 0).val ∧
          w3.getLsbD 25 = (b.service.map Service.stagedDormancy).getD false ∧
          w3.getLsbD 26 = (b.service.map Service.again).getD false ∧
          w3.getLsbD 27 = (b.service.map Service.overdue).getD false ∧
          w4.extractLsb' 0 16 = b.tag ∧ w4.extractLsb' 16 16 = b.hits ∧
          w5.getLsbD 22 = b.service.isSome ∧
          (w5.extractLsb' 20 2).toNat = ((b.service.map Service.holder).getD 0).val ∧
          w5.getLsbD 17 = decide ((b.service.map Service.expiries).getD 0 = 1) ∧
          w5.getLsbD 16 = (b.service.bind Service.limit).isSome ∧
          w5.extractLsb' 0 16 = ((b.service.bind Service.limit).map RunningLimit.remaining).getD 0#16

/-! ### SWEEP -/

/-- R146, R159, R161, R173: the values that make a SWEEP out of range, and where each field of an accepted one
stands, its source filter among them; an accepted SWEEP makes the slot BUSY with its examination at the
cursor and the page empty, and a refused one completes with BADFIELD. -/
def Obligations.SweepStartsAtTheCursor : Prop :=
  ∀ (s : State) (go : Word), Ready s 6#4 →
    (sweepRecord s = none ↔
      96 ≤ ((s.cmd[1]).extractLsb' 0 7).toNat ∨ (s.cmd[2]).extractLsb' 0 6 = 0#6 ∨
      (s.cmd[3]).extractLsb' 0 4 = 0#4 ∨
      ((s.cmd[3]).extractLsb' 8 4).toNat < ((s.cmd[3]).extractLsb' 0 4).toNat ∨
      FilterRefused s.cmd[4]) ∧
    (sweepRecord s = none → exec (.sweep go) s = .next (s.complete 6#4 .badField [])) ∧
    ∀ r, sweepRecord s = some r →
      exec (.sweep go) s = .next { s with slot := .sweep r, doneFlag := false } ∧
      r.next.val = ((s.cmd[1]).extractLsb' 0 7).toNat ∧ r.page = [] ∧
      r.states = (s.cmd[2]).extractLsb' 0 6 ∧ r.low.val = ((s.cmd[3]).extractLsb' 0 4).toNat ∧
      r.high.val = ((s.cmd[3]).extractLsb' 8 4).toNat ∧ FilterNamed s.cmd[4] r.filter

/-- R160, R161: one examination of a SWEEP appends the entry if it matches; it ends the SWEEP with a page of
12 or with entry 95, and changes no entry. -/
def Obligations.SweepExaminesOneEntry : Prop :=
  ∀ (s : State) (r : SweepRun), s.slot = .sweep r →
    ∀ page : List EntryNo,
      (Matches r (s.entry r.next) → page = r.page ++ [r.next]) →
      (¬ Matches r (s.entry r.next) → page = r.page) →
      (page.length < 12 → r.next.val < 95 →
        ∃ e : EntryNo, e.val = r.next.val + 1 ∧
          exec .sweepExamination s =
            .next { s with slot := .sweep { r with next := e, page := page } }) ∧
      (page.length = 12 → r.next.val < 95 →
        exec .sweepExamination s =
          .next
            (s.complete 6#4 .ok
              (BitVec.ofNat 32 (12 + 256 * (r.next.val + 1)) ::
                page.map fun e => BitVec.ofNat 32 e.val))) ∧
      (page.length ≤ 12 → r.next.val = 95 →
        exec .sweepExamination s =
          .next
            (s.complete 6#4 .ok
              (BitVec.ofNat 32 (page.length + 32768) ::
                page.map fun e => BitVec.ofNat 32 e.val)))

/-! ### Channels, takers, strings, limits and conditions through the management port -/

/-- R137, R140: a management POST delivers one occurrence to the entry bound to its channel, whatever the
masks, or makes one STRAY report. R141: a PERMIT that names a channel gives it the new mask, unless a bit
above bit 3 is set, and one that names none changes no mask; the result carries the sixteen masks. -/
def Obligations.ManagementPostAndPermit : Prop :=
  (∀ (s : State) (go : Word) (c : Channel), Ready s 7#4 →
    c.val = ((s.cmd[1]).extractLsb' 0 4).toNat →
    ((∀ e, s.hasKey (.posted c) e = false) →
      exec (.postCommand go) s =
        .next ((s.report .stray (.channel c)).complete 7#4 .noChannel [])) ∧
    ∀ e, (∀ e', s.hasKey (.posted c) e' = true ↔ e' = e) →
      exec (.postCommand go) s = .next ((s.occurrence e).complete 7#4 .ok [presentEntry e])) ∧
  ∀ (s : State) (go : Word), Ready s 8#4 →
    ((s.cmd[1]).getLsbD 8 = true → (s.cmd[2]).extractLsb' 4 28 ≠ 0#28 →
      exec (.permit go) s = .next (s.complete 8#4 .badField [])) ∧
    (((s.cmd[1]).getLsbD 8 = true → (s.cmd[2]).extractLsb' 4 28 = 0#28) →
      ∃ s' w1 w2, exec (.permit go) s = .next s' ∧
        s' = ({ s with masks := s'.masks } : State).complete 8#4 .ok [w1, w2] ∧
        (∀ c : Channel, s'.masks[c] =
          if (s.cmd[1]).getLsbD 8 = true ∧ c.val = ((s.cmd[1]).extractLsb' 0 4).toNat then
            (s.cmd[2]).extractLsb' 0 4
          else s.masks[c]) ∧
        ∀ c : Channel,
          s'.masks[c] =
            if c.val < 8 then w1.extractLsb' (4 * c.val) 4
            else w2.extractLsb' (4 * (c.val - 8)) 4)

/-- R74, R155: ENABLE, HALT and NONE of a TAKER set, clear and keep the enable state and return the taker's
view; a taker above 3 or another action is refused. -/
def Obligations.TakerCommandEnablesHaltsOrReads : Prop :=
  ∀ (s : State) (go : Word) (action : BitVec 2), Ready s 9#4 →
    action = (s.cmd[1]).extractLsb' 8 2 →
    (action = 3#2 → exec (.takerBadAction go) s = .next (s.complete 9#4 .badField [])) ∧
    ∀ (i : Instr) (on : Bool → Bool),
      ((i = .takerNone go ∧ action = 0#2 ∧ on = id) ∨
        (i = .takerEnable go ∧ action = 1#2 ∧ on = fun _ => true) ∨
        (i = .takerHalt go ∧ action = 2#2 ∧ on = fun _ => false)) →
      (4 ≤ ((s.cmd[1]).extractLsb' 0 3).toNat →
        exec i s = .next (s.complete 9#4 .badField [])) ∧
      ∀ t : Taker, t.val = ((s.cmd[1]).extractLsb' 0 3).toNat →
        ∃ w1 w2 w3 : Word,
          exec i s =
            .next
              ((s.setPort t { s.port t with enabled := on (s.port t).enabled }).complete 9#4 .ok
                [w1, w2, w3]) ∧
          w1.getLsbD 0 = on (s.port t).enabled ∧
          (w1.extractLsb' 8 4).toNat = (s.port t).floor.val ∧
          (∀ j : Fin 4, (w2.extractLsb' (7 * j.val) 7).toNat =
            (((s.stack t).reverse[j.val]?).map Fin.val).getD 127) ∧
          ((s.stack t).length ≤ 4 → (w2.extractLsb' 29 3).toNat = (s.stack t).length) ∧
          (∀ j : Fin 4, (w3.extractLsb' (7 * j.val) 7).toNat =
            (((s.withdrawnOf t)[j.val]?).map Fin.val).getD 127) ∧
          ((s.withdrawnOf t).length ≤ 4 →
            (w3.extractLsb' 29 3).toNat = (s.withdrawnOf t).length)

/-- R100, R101, R107: START, STOP and a wake hold, by the state of the string; each changes that string
alone. -/
def Obligations.StartStopAndWakeHoldActByState : Prop :=
  ∀ (s : State) (n : StringNo),
    ((s.string n).state = .resting →
      exec (.wakeHold n) s =
        .next (s.setString n { s.string n with state := .running, cycle := none, clock := 0 })) ∧
    ((s.string n).state ≠ .resting → exec (.wakeHold n) s = .next s) ∧
    ∀ go : Word, Ready s 10#4 → (s.cmd[1]).extractLsb' 0 2 = BitVec.ofNat 2 n.val →
      ((s.cmd[1]).extractLsb' 4 3 = 0#3 →
        (((s.string n).state = .off ∨ (s.string n).state = .faulted) →
          ∃ s', exec (.start go) s = .next s' ∧
            s' =
              (s.setString n
                { s.string n with
                  state := .running, faults := 0, history := 0#24
                  marks := Vector.replicate 24 0#8, cycle := none, clock := 0 }).complete 10#4 .ok
                (s'.stringView n)) ∧
        (((s.string n).state = .running ∨ (s.string n).state = .resting) →
          exec (.start go) s = .next (s.complete 10#4 .badState (s.stringView n)))) ∧
      ((s.cmd[1]).extractLsb' 4 3 = 1#3 →
        ((s.string n).state = .off →
          exec (.stop go) s = .next (s.complete 10#4 .ok (s.stringView n))) ∧
        ((s.string n).state = .running → (s.string n).cycle ≠ none →
          ∃ s', exec (.stop go) s = .next s' ∧
            s' =
              (s.setString n { s.string n with stopPending := true }).complete 10#4 .ok
                (s'.stringView n)) ∧
        (((s.string n).state = .resting ∨ (s.string n).state = .faulted ∨
            ((s.string n).state = .running ∧ (s.string n).cycle = none)) →
          ∃ s', exec (.stop go) s = .next s' ∧
            s' =
              (s.setString n
                { s.string n with
                  state := .off, mode := (s.string n).pendingMode.getD (s.string n).mode
                  stopPending := false, pendingMode := none, history := 0#24, rollCalls := []
                  marks := Vector.replicate 24 0#8, cycle := none, clock := 0 }).complete 10#4 .ok
                (s'.stringView n)))

/-- R102, R103, R104: MODE and DIVISOR by the state of the string, the refusals of STRING, and the string's
view that the result of every STRING naming a string carries. That a MODE naming the mode in force, with
a cycle in flight and none pending, sets nothing pending is the model's reading of R102 (log 15). -/
def Obligations.ModeDivisorAndStringRefusals : Prop :=
  (∀ (s : State) (n : StringNo), ∃ w1 w2 w3 : Word, s.stringView n = [w1, w2, w3] ∧
    w1.extractLsb' 0 2 =
      (match (s.string n).state with
        | .off => 0#2 | .running => 1#2 | .resting => 2#2 | .faulted => 3#2) ∧
    w1.getLsbD 4 = decide ((s.string n).mode = .onDemand) ∧
    w1.getLsbD 5 = (s.string n).pendingMode.isSome ∧
    w1.getLsbD 6 = decide ((s.string n).pendingMode = some .onDemand) ∧
    w1.getLsbD 7 = (s.string n).stopPending ∧
    (w1.extractLsb' 8 2).toNat = (s.string n).faults.val ∧
    ((s.string n).rollCalls.length ≤ 24 →
      (w1.extractLsb' 16 5).toNat = (s.string n).rollCalls.length) ∧
    w2.toNat = (s.string n).divisor.toNat ∧ w3.toNat = (s.string n).history.toNat) ∧
  ∀ (s : State) (go : Word), Ready s 10#4 →
    ((s.cmd[1]).extractLsb' 0 2 = 3#2 → ∀ i,
      ((i = .start go ∧ (s.cmd[1]).extractLsb' 4 3 = 0#3) ∨
        (i = .stop go ∧ (s.cmd[1]).extractLsb' 4 3 = 1#3) ∨
        (i = .mode go ∧ (s.cmd[1]).extractLsb' 4 3 = 2#3) ∨
        (i = .divisor go ∧ (s.cmd[1]).extractLsb' 4 3 = 3#3) ∨
        (i = .stringBadAction go ∧ 4 ≤ ((s.cmd[1]).extractLsb' 4 3).toNat)) →
      exec i s = .next (s.complete 10#4 .badField [])) ∧
    ∀ n : StringNo, (s.cmd[1]).extractLsb' 0 2 = BitVec.ofNat 2 n.val →
      (4 ≤ ((s.cmd[1]).extractLsb' 4 3).toNat →
        exec (.stringBadAction go) s = .next (s.complete 10#4 .badField (s.stringView n))) ∧
      ((s.cmd[1]).extractLsb' 4 3 = 2#3 →
        (2 ≤ ((s.cmd[2]).extractLsb' 0 2).toNat →
          exec (.mode go) s = .next (s.complete 10#4 .badField (s.stringView n))) ∧
        ∀ m : StringMode,
          (s.cmd[2]).extractLsb' 0 2 = (match m with | .continuous => 0#2 | .onDemand => 1#2) →
          ∃ s' g, exec (.mode go) s = .next s' ∧
            s' = (s.setString n g).complete 10#4 .ok (s'.stringView n) ∧
            (((s.string n).state = .off ∨ (s.string n).state = .faulted ∨
                ((s.string n).state = .running ∧ (s.string n).cycle = none)) →
              g = { s.string n with mode := m }) ∧
            ((s.string n).state = .resting → m = .onDemand → g = s.string n) ∧
            ((s.string n).state = .resting → m = .continuous →
              g = { s.string n with
                state := .running, mode := .continuous, cycle := none, clock := 0 }) ∧
            ((s.string n).state = .running → (s.string n).cycle ≠ none → m = (s.string n).mode →
              (s.string n).pendingMode = none → g = s.string n) ∧
            ((s.string n).state = .running → (s.string n).cycle ≠ none →
              (m ≠ (s.string n).mode ∨ (s.string n).pendingMode ≠ none) →
              g = { s.string n with pendingMode := some m })) ∧
      ((s.cmd[1]).extractLsb' 4 3 = 3#3 →
        ((((s.cmd[2]).extractLsb' 0 11).toNat < 4 ∨ 1023 < ((s.cmd[2]).extractLsb' 0 11).toNat) →
          exec (.divisor go) s = .next (s.complete 10#4 .badField (s.stringView n))) ∧
        (4 ≤ ((s.cmd[2]).extractLsb' 0 11).toNat → ((s.cmd[2]).extractLsb' 0 11).toNat ≤ 1023 →
          ((s.string n).state ≠ .off →
            exec (.divisor go) s = .next (s.complete 10#4 .badState (s.stringView n))) ∧
          ((s.string n).state = .off →
            ∃ s', exec (.divisor go) s = .next s' ∧
              s' =
                (s.setString n
                  { s.string n with divisor := (s.cmd[2]).extractLsb' 0 10 }).complete 10#4 .ok
                  (s'.stringView n))))

/-- R77, R78: a LIMIT is checked as a whole; the row and the prescaler it names take their new values, with
the prescaler count starting afresh; the result carries the rows and the prescaler after it. -/
def Obligations.LimitIsCheckedAsAWhole : Prop :=
  ∀ (s : State) (go : Word), Ready s 11#4 →
      (LimitOutOfRange s → exec (.limit go) s = .next (s.complete 11#4 .badField [])) ∧
      (¬ LimitOutOfRange s →
        ∃ s' ws, exec (.limit go) s = .next s' ∧
          s' =
            ({ s with
              limits := s'.limits, prescaler := s'.prescaler
              prescaleCount := s'.prescaleCount } : State).complete 11#4 .ok ws ∧
          (∀ r : Fin 7, s'.limits[r] =
            if (s.cmd[1]).getLsbD 8 = true ∧ ((s.cmd[1]).extractLsb' 0 3).toNat = r.val + 1 then
              { duration := (s.cmd[2]).extractLsb' 0 16
                policy := if (s.cmd[2]).getLsbD 16 then .reclaim else .note }
            else s.limits[r]) ∧
          ((s.cmd[1]).getLsbD 9 = true →
            s'.prescaler = (s.cmd[3]).extractLsb' 0 16 ∧ s'.prescaleCount = 0) ∧
          ((s.cmd[1]).getLsbD 9 = false →
            s'.prescaler = s.prescaler ∧ s'.prescaleCount = s.prescaleCount) ∧
          ws.length = 8 ∧
          (∀ r : Fin 7, ws[r.val]? =
            some
              (BitVec.ofNat 32
                ((s'.limits[r]).duration.toNat +
                  (match (s'.limits[r]).policy with | .note => 0 | .reclaim => 65536)))) ∧
          ws[7]? = some (BitVec.ofNat 32 s'.prescaler.toNat))

/-- R167, R168: a CONDITION returns the rows it reads as they stand, then clears the rows it acknowledges,
then sets the enables unless KEEP; the flags and enables returned are those after it. -/
def Obligations.ConditionReadsThenClearsThenEnables : Prop :=
  ∀ (s : State) (go : Word), Ready s 12#4 →
      (ConditionOutOfRange s → exec (.condition go) s = .next (s.complete 12#4 .badField [])) ∧
      (¬ ConditionOutOfRange s →
        ∃ s' w1 ws, exec (.condition go) s = .next s' ∧
          s' = ({ s with conditions := s'.conditions } : State).complete 12#4 .ok (w1 :: ws) ∧
          (∀ r : CondRow,
            (s'.cond r).latched =
              (if (s.cmd[2]).getLsbD r.ix.val then false else (s.cond r).latched) ∧
            (s'.cond r).count = (if (s.cmd[2]).getLsbD r.ix.val then 0#8 else (s.cond r).count) ∧
            (s'.cond r).culprit =
              (if (s.cmd[2]).getLsbD r.ix.val then none else (s.cond r).culprit) ∧
            (s'.cond r).enabled =
              (if (s.cmd[3]).extractLsb' 16 2 = 1#2 then (s.cmd[3]).getLsbD r.ix.val
               else (s.cond r).enabled) ∧
            w1.getLsbD r.ix.val = (s'.cond r).latched ∧
            w1.getLsbD (16 + r.ix.val) = (s'.cond r).enabled ∧
            ∃ w, ws[r.ix.val]? = some w ∧
              ((s.cmd[1]).getLsbD r.ix.val = false → w = 0#32) ∧
              ((s.cmd[1]).getLsbD r.ix.val = true →
                w.getLsbD 31 = true ∧ w.getLsbD 30 = (s.cond r).latched ∧
                w.getLsbD 29 = (s.cond r).enabled ∧ w.extractLsb' 16 8 = (s.cond r).count ∧
                (w.extractLsb' 25 4).toNat = (((s.cond r).culprit).map (·.kindValue.1)).getD 0 ∧
                w.extractLsb' 0 16 =
                  ((((s.cond r).culprit).map (·.kindValue.2)).getD 0#32).extractLsb' 0 16)) ∧
          ws.length = 9)

/-- R27, R28, R156: RESET DIRECTORY starts clearing, each step frees the lowest entry that is still bound, and
when none is left the completion empties the queues, stacks, lists and histories and returns the number
bound at the start. That a FREE entry takes no step is the model's choice (log 10). -/
def Obligations.ResetDirectoryFreesEveryEntry : Prop :=
  (∀ (s : State) (go : Word), Ready s 13#4 →
    ∃ s', exec (.resetDirectory go) s = .next s' ∧
      s' =
        { s with
          slot := .resetDirectory ((List.finRange 96).countP fun e => (s.entry e).isSome)
          doneFlag := false } ∧
      s'.clearing = true ∧ ∀ t, s'.tkalert t = false) ∧
  (∀ (s : State) (bound : Nat) (e : EntryNo) (b : Entry), s.slot = .resetDirectory bound →
    s.entry e = some b → (∀ e', e' < e → s.entry e' = none) →
    ∃ s', exec .clearingFree s = .next s' ∧
      s' = { s with
        entries := s'.entries, queues := s'.queues, serviceStacks := s'.serviceStacks } ∧
      s'.entry e = none ∧ (∀ e', e' ≠ e → s'.entry e' = s.entry e') ∧
      (∀ k, s'.queue k =
        if b.phase = .raised ∧ k = b.level then (s.queue k).erase e else s.queue k) ∧
      ∀ t, s'.stack t =
        if b.service.map Service.holder = some t then (s.stack t).erase e else s.stack t) ∧
  ∀ (s : State) (bound : Nat), s.slot = .resetDirectory bound → (∀ e, s.entry e = none) →
    ∃ s', exec .resetDirectoryCompletion s = .next s' ∧
      s' =
        ({ s with
          queues := s'.queues, serviceStacks := s'.serviceStacks, withdrawn := s'.withdrawn
          strings := s'.strings } : State).complete 13#4 .ok [BitVec.ofNat 32 bound] ∧
      (∀ k, s'.queue k = []) ∧ (∀ t, s'.stack t = []) ∧ (∀ t, s'.withdrawnOf t = []) ∧
      ∀ n, s'.string n =
        { s.string n with
          rollCalls := [], history := 0#24, marks := Vector.replicate 24 0#8 }

/-! ### The request strings -/

/-- R98, R101, R102, R106, R110: what follows a cycle, after the pending mode has become the mode: OFF with a
stop pending, FAULTED at the third fault, RESTING after a quiet good scan in ON-DEMAND, a gap otherwise. -/
def Obligations.EndEventDecidesWhatFollows : Prop :=
  ∀ (g : StringEngine) (quiet : Bool) (len : Nat),
    (g.afterCycle quiet len).cycle = none ∧
    (g.afterCycle quiet len).mode = g.pendingMode.getD g.mode ∧
    (g.afterCycle quiet len).pendingMode = none ∧
    (g.afterCycle quiet len).divisor = g.divisor ∧
    (g.afterCycle quiet len).faults = g.faults ∧
    (g.stopPending = true →
      (g.afterCycle quiet len).state = .off ∧ (g.afterCycle quiet len).stopPending = false ∧
      (g.afterCycle quiet len).rollCalls = [] ∧ (g.afterCycle quiet len).history = 0#24 ∧
      (g.afterCycle quiet len).marks = Vector.replicate 24 0#8 ∧
      (g.afterCycle quiet len).clock = 0) ∧
    (g.stopPending = false →
      (g.afterCycle quiet len).stopPending = false ∧
      (g.afterCycle quiet len).history = g.history ∧ (g.afterCycle quiet len).marks = g.marks ∧
      (g.faults = 3 →
        (g.afterCycle quiet len).state = .faulted ∧ (g.afterCycle quiet len).rollCalls = [] ∧
        (g.afterCycle quiet len).clock = 0) ∧
      (g.faults ≠ 3 → (g.afterCycle quiet len).rollCalls = g.rollCalls) ∧
      (g.faults ≠ 3 → g.pendingMode.getD g.mode = .onDemand → quiet = true → g.rollCalls = [] →
        (g.afterCycle quiet len).state = .resting ∧ (g.afterCycle quiet len).clock = 0) ∧
      (g.faults ≠ 3 →
        (g.pendingMode.getD g.mode = .continuous ∨ quiet = false ∨ g.rollCalls ≠ []) →
        (g.afterCycle quiet len).state = g.state))

/-- R98, R121: the next cycle is a roll call of the first slot of the queue that a bound entry names with a
mark, or a scan when there is none; the slots before it are dropped and their mark histories cleared. -/
def Obligations.NextCycleDropsUnnamedSlots : Prop :=
  ∀ (s : State) (n : StringNo), (s.string n).state = .running → (s.string n).cycle = none →
    ∃ s' dropped kept, exec (.nextCycleChoice n) s = .next s' ∧
      (s.string n).rollCalls = dropped ++ kept ∧
      (∀ k ∈ dropped, ¬ NamedWithMark s n k) ∧
      (∀ k ks, kept = k :: ks → NamedWithMark s n k) ∧
      ∃ marks : Vector (BitVec 8) 24,
        s' =
          s.setString n
            { s.string n with
              rollCalls := kept, marks := marks, clock := 0
              cycle :=
                some
                  (match kept with
                    | [] => .scan
                    | k :: _ => .rollCall k) } ∧
        ∀ k : Fin 24, marks[k] = if k ∈ dropped then 0#8 else (s.string n).marks[k]

/-- R96, R108, R109, R124, R126: the end event of a faulted scan or roll call changes the string alone: its
fault count, and for a roll call the slot at the head of its queue; the third fault in a row makes one
report to STRING FAULT. -/
def Obligations.FaultedCycleIsDiscardedWhole : Prop :=
  ∀ (s : State) (n : StringNo) (i : Instr) (left : List SlotNo) (len : Nat),
    (s.string n).state = .running →
    ((∃ samples, i = .scanEnd n samples ∧ ScanFaulted samples ∧ (s.string n).cycle = some .scan ∧
        left = (s.string n).rollCalls ∧ len = 54) ∨
      ∃ samples k, i = .rollCallEnd n samples ∧ RollCallFaulted k samples ∧
        (s.string n).cycle = some (.rollCall k) ∧ len = 27 ∧
        left =
          (if (s.string n).rollCalls.head? = some k then (s.string n).rollCalls.tail
           else (s.string n).rollCalls)) →
    ∃ s' faults, exec i s = .next s' ∧
      s' = { s with strings := s'.strings, conditions := s'.conditions } ∧
      faults = Fin.ofNat 4 (min 3 ((s.string n).faults.val + 1)) ∧
      s'.string n =
        ({ s.string n with faults := faults, rollCalls := left } : StringEngine).afterCycle false
          len ∧
      (∀ n', n' ≠ n → s'.string n' = s.string n') ∧
      (faults ≠ 3 → s'.conditions = s.conditions) ∧
      (faults = 3 → ReportedOnce s s' .stringFault (.string n))

/-- R111 to R117: the end event of a good scan, as one event: what each entry of the string becomes, the
slot history, the mark histories of inactive slots, the roll calls requested, and the fault count. -/
def Obligations.GoodScanActsOnEntriesAndEngine : Prop :=
  ∀ (s : State) (n : StringNo) (samples : BitVec 54), Safety.KeysDistinct s →
    (s.string n).state = .running → (s.string n).cycle = some .scan → ¬ ScanFaulted samples →
    ∃ s' history marks requested, exec (.scanEnd n samples) s = .next s' ∧
      s' = { s with
        entries := s'.entries, queues := s'.queues, strings := s'.strings
        conditions := s'.conditions } ∧
      (s.clearing = true → s'.entries = s.entries ∧ s'.queues = s.queues) ∧
      (s.clearing = false →
        ∀ e, s'.entry e = (s.entry e).map (scanEffect n samples (s.string n).history)) ∧
      (∀ n', n' ≠ n → s'.string n' = s.string n') ∧
      (∀ k : Fin 24, history.getLsbD k.val = samples.getLsbD (5 + 2 * k.val)) ∧
      (∀ k : Fin 24,
        marks[k] = if samples.getLsbD (5 + 2 * k.val) then (s.string n).marks[k] else 0#8) ∧
      (∀ k : SlotNo,
        k ∈ requested ↔
          samples.getLsbD (5 + 2 * k.val) = true ∧ NamedWithMark s n k ∧
            k ∉ (s.string n).rollCalls) ∧
      requested.Pairwise (· < ·) ∧
      s'.string n =
        ({ s.string n with
          history := history, marks := marks, faults := 0
          rollCalls := (s.string n).rollCalls ++ requested } : StringEngine).afterCycle
          (decide (history = 0#24)) 54

/-- R32, R34, R111, R116, R166: a good scan's lapsed entries leave their queues and its raised entries join
the tails in ascending slot order; its STRAY reports come in ascending slot order. -/
def Obligations.GoodScanPlacesAndReportsInSlotOrder : Prop :=
  ∀ (s s' : State) (n : StringNo) (samples : BitVec 54), Safety.KeysDistinct s →
    (s.string n).state = .running → (s.string n).cycle = some .scan → ¬ ScanFaulted samples →
    exec (.scanEnd n samples) s = .next s' →
    (s.clearing = false → Safety.QueuesMatch s → Safety.EntriesOk s → ∀ k : Level, k ≠ 0 →
      s'.queue k =
        queueAfter s (scanEffect n samples (s.string n).history)
          ((List.finRange 24).map fun j => .wire n j none) k) ∧
    ∀ culprits : List Culprit,
      (∃ slots : List SlotNo,
        slots.Pairwise (· < ·) ∧ culprits = slots.map (fun k => .slot n k) ∧
        ∀ k, k ∈ slots ↔
          samples.getLsbD (5 + 2 * k.val) = true ∧
            (s.string n).history.getLsbD k.val = false ∧ ¬ NamedWithMark s n k ∧
            ∀ e, s.hasKey (.wire n k none) e = false) →
      StraysReported s s' culprits

/-- R125 to R130: the end event of a good roll call, as one event: what each entry of the slot becomes, the
mark history of the slot, the fault count, and the slot removed from the head of the queue. -/
def Obligations.GoodRollCallActsOnEntriesAndEngine : Prop :=
  ∀ (s : State) (n : StringNo) (k : SlotNo) (samples : BitVec 27), Safety.KeysDistinct s →
    (s.string n).state = .running → (s.string n).cycle = some (.rollCall k) →
    ¬ RollCallFaulted k samples →
    ∃ s' answered, exec (.rollCallEnd n samples) s = .next s' ∧
      s' = { s with
        entries := s'.entries, queues := s'.queues, strings := s'.strings
        conditions := s'.conditions } ∧
      (s.clearing = true → s'.entries = s.entries ∧ s'.queues = s.queues) ∧
      (s.clearing = false →
        ∀ e, s'.entry e = (s.entry e).map (rollCallEffect n k samples (s.string n).marks[k])) ∧
      (s.clearing = false → Safety.QueuesMatch s → Safety.EntriesOk s → ∀ j : Level, j ≠ 0 →
        s'.queue j =
          queueAfter s (rollCallEffect n k samples (s.string n).marks[k])
            ((List.finRange 8).map fun m => .wire n k (some m)) j) ∧
      (∀ n', n' ≠ n → s'.string n' = s.string n') ∧
      (∀ m : Fin 8, answered.getLsbD m.val = samples.getLsbD (10 + 2 * m.val)) ∧
      s'.string n =
        ({ s.string n with
          faults := 0, marks := (s.string n).marks.set k.val answered k.isLt
          rollCalls :=
            if (s.string n).rollCalls.head? = some k then (s.string n).rollCalls.tail
            else (s.string n).rollCalls } : StringEngine).afterCycle false 27

/-- R130, R131, R166: a good roll call reports the marks that answered unbound to STRAY, in ascending order,
or SILENT when no mark answered. -/
def Obligations.GoodRollCallReports : Prop :=
  ∀ (s s' : State) (n : StringNo) (k : SlotNo) (samples : BitVec 27),
    (s.string n).state = .running → (s.string n).cycle = some (.rollCall k) →
    ¬ RollCallFaulted k samples → exec (.rollCallEnd n samples) s = .next s' →
    ((∀ m : Fin 8, samples.getLsbD (10 + 2 * m.val) = false) →
      ReportedOnce s s' .silent (.slot n k)) ∧
    ((∃ m : Fin 8, samples.getLsbD (10 + 2 * m.val) = true) →
      ∀ marks : List Mark, marks.Pairwise (· < ·) →
        (∀ m, m ∈ marks ↔
          samples.getLsbD (10 + 2 * m.val) = true ∧
            ∀ e, s.hasKey (.wire n k (some m)) e = false) →
        StraysReported s s' (marks.map fun m => .mark n k m))

/-! ### Service limits -/

/-- R81: at a tick a running limit above 1 goes down by 1, one at 1 expires and its expiry waits to be taken,
and nothing else of any entry changes; the prescaler count starts again (R77). That an expiry waits in
the record until it is taken is the model's choice (log 9). -/
def Obligations.TickCountsEveryRunningLimit : Prop :=
  ∀ s : State, s.inReset = false →
    ∃ s', exec .tick s = .next s' ∧ s' = { s with entries := s'.entries, prescaleCount := 0 } ∧
      (∀ e, s.entry e = none → s'.entry e = none) ∧
      ∀ e b, s.entry e = some b →
        ((b.service.bind Service.limit) = none → s'.entry e = some b) ∧
        ∀ v l, b.service = some v → v.limit = some l →
          s'.entry e =
            some
              (b.withLimit
                (some
                  (if 1 < l.remaining.toNat then { l with remaining := l.remaining - 1#16 }
                   else { l with expired := true })))

/-- R27, R82, R83: a first expiry sets overdue, makes expiries 1 and reports OVERDUE; the limit stops under
NOTE and is reloaded from its row under RECLAIM. While clearing it is discarded with no report; where no
expiry waits, nothing happens (log 4). -/
def Obligations.FirstExpirySetsOverdue : Prop :=
  ∀ (s : State) (e : EntryNo),
    ((∀ b v l, s.entry e = some b → b.service = some v → v.limit = some l → l.expired = false) →
      exec (.firstExpiry e) s = .next s) ∧
    ∀ b v l, s.entry e = some b → b.service = some v → v.limit = some l → l.expired = true →
      v.expiries = 0 →
      (s.clearing = true →
        exec (.firstExpiry e) s =
          .next (s.setEntry e (some (b.withLimit (some { l with expired := false }))))) ∧
      (s.clearing = false →
        ∃ s', exec (.firstExpiry e) s = .next s' ∧
          s' = { s with entries := s'.entries, conditions := s'.conditions } ∧
          (∀ e', e' ≠ e → s'.entry e' = s.entry e') ∧
          s'.entry e =
            some
              (b.withService
                { v with
                  overdue := true, expiries := 1
                  limit :=
                    match (s.limits[l.row]).policy with
                    | .note => none
                    | .reclaim =>
                      some
                        { row := l.row, remaining := (s.limits[l.row]).duration
                          expired := false } }) ∧
          ReportedOnce s s' .overdue (.entry e))

/-- R27, R84, R85, R86: a second expiry under NOTE stops the limit; under RECLAIM it withdraws the entry from
its holder, from any place of the stack, to the head of its queue, DORMANT or FREE, appends its number to
the withdrawn list, the oldest of four dropped first, and reports WITHDRAWN. -/
def Obligations.SecondExpiryWithdraws : Prop :=
  ∀ (s : State) (e : EntryNo) (b : Entry) (v : Service) (l : RunningLimit),
    s.entry e = some b → b.service = some v → v.limit = some l → l.expired = true →
    v.expiries = 1 →
    (s.clearing = true →
      exec (.secondExpiry e) s =
        .next (s.setEntry e (some (b.withLimit (some { l with expired := false }))))) ∧
    (s.clearing = false → (s.limits[l.row]).policy = .note →
      exec (.secondExpiry e) s = .next (s.setEntry e (some (b.withLimit none)))) ∧
    (s.clearing = false → (s.limits[l.row]).policy = .reclaim →
      ∃ s', exec (.secondExpiry e) s = .next s' ∧
        s' = { s with
          entries := s'.entries, queues := s'.queues, serviceStacks := s'.serviceStacks
          withdrawn := s'.withdrawn, conditions := s'.conditions } ∧
        (∀ t, s'.stack t = if t = v.holder then (s.stack t).erase e else s.stack t) ∧
        (∀ t, t ≠ v.holder → s'.withdrawnOf t = s.withdrawnOf t) ∧
        ((s.withdrawnOf v.holder).length < 4 →
          s'.withdrawnOf v.holder = s.withdrawnOf v.holder ++ [e]) ∧
        ((s.withdrawnOf v.holder).length = 4 →
          s'.withdrawnOf v.holder = (s.withdrawnOf v.holder).tail ++ [e]) ∧
        (∀ e', e' ≠ e → s'.entry e' = s.entry e') ∧
        (b.phase = .retiring v → s'.entry e = none ∧ s'.queues = s.queues) ∧
        (b.phase = .held v → v.stagedDormancy = true →
          s'.entry e =
              some { b with level := v.stagedLevel.getD b.level, phase := .dormant } ∧
            s'.queues = s.queues) ∧
        (b.phase = .held v → v.stagedDormancy = false → ∀ k, k = v.stagedLevel.getD b.level →
          k ≠ 0 →
          s'.entry e = some { b with level := k, reoffered := true, phase := .raised } ∧
            ∀ k', s'.queue k' = if k' = k then e :: s.queue k else s.queue k') ∧
        ReportedOnce s s' .withdrawn (.entry e))

/-! ### What the windows show, and what holds in every run -/

/-- R49, R144, R172, R173: a read of DONE, YIELD, POST or TRESET returns the word last written to it, as the write
carried it; CMD0 to CMD7 read as stored in the bits the layouts assign and 0 in the others, RES0 to RES15
as the last completion wrote them, and GO and the addresses that hold no word as 0; CLAIM, PEEK and MSTAT
stand at their addresses of 10.1. That a bit of a CMD word assigned for any command reads as stored, and
that the words read are kept, are the model's choices (logs 17 and 6). R29, R52, R72, R73, R151: SUMMARY counts the FREE entries, the queues' total length, the stacks'
total depth and the clearing flag; STACK and ANSWER show the stack bottom first, the answer and the
list's count. -/
def Obligations.SummaryStackAndAnswerReads : Prop :=
  (∀ (s s' : State) (t : Taker) (v : Word), s.inReset = false →
    (exec (.done t v) s = .next s' → s'.readWord (takerAddress t 2) = v) ∧
    (exec (.yield t v) s = .next s' → s'.readWord (takerAddress t 3) = v) ∧
    (exec (.post t v) s = .next s' → s'.readWord (takerAddress t 5) = v) ∧
    (exec (.treset t v) s = .next s' → s'.readWord (takerAddress t 6) = v)) ∧
  (∀ (i : Instr) (s s' : State) (t : Taker), i.wellFormed = true → i ≠ .powerOn →
    i ≠ .resetnAssert → s.inReset = false → exec i s = .next s' →
    ((∀ v, i ≠ .done t v) →
      s'.readWord (takerAddress t 2) = s.readWord (takerAddress t 2)) ∧
    ((∀ v, i ≠ .yield t v) →
      s'.readWord (takerAddress t 3) = s.readWord (takerAddress t 3)) ∧
    ((∀ v, i ≠ .post t v) →
      s'.readWord (takerAddress t 5) = s.readWord (takerAddress t 5)) ∧
    ((∀ v, i ≠ .treset t v) →
      s'.readWord (takerAddress t 6) = s.readWord (takerAddress t 6))) ∧
  (∀ s : State, s.inReset = false →
    (∀ k : Fin 8, s.readWord (mgmtAddress k.val) = s.cmd[k] &&& cmdAssigned[k]) ∧
    (∀ k : Fin 16, s.readWord (mgmtAddress (16 + k.val)) = s.res[k]) ∧
    s.readWord (mgmtAddress 8) = 0#32 ∧ (∀ a, NoWord a → s.readWord a = 0#32) ∧
    (∀ (t : Taker) (s' : State), exec (.claim (oneTaker t)) s = .next s' →
      (s'.port t).readData = some (s.readWord (takerAddress t 0))) ∧
    (∀ (t : Taker) (s' : State), exec (.peek t) s = .next s' →
      (s'.port t).readData = some (s.readWord (takerAddress t 1))) ∧
    ∀ s', exec .mstatRead s = .next s' → s'.mstatData = some (s.readWord (mgmtAddress 9))) ∧
  ∀ s : State, Safety.QueuesMatch s → Safety.StacksMatch s → Safety.StacksOrdered s →
    Safety.WithdrawnOk s → s.inReset = false →
    ((s.readWord (mgmtAddress 10)).extractLsb' 0 7).toNat =
        (List.finRange 96).countP (fun e => (s.entry e).isNone) ∧
      ((s.readWord (mgmtAddress 10)).extractLsb' 8 7).toNat =
        ((List.finRange 16).map fun k => (s.queue k).length).sum ∧
      ((s.readWord (mgmtAddress 10)).extractLsb' 16 5).toNat =
        ((List.finRange 4).map fun t => (s.stack t).length).sum ∧
      (s.readWord (mgmtAddress 10)).getLsbD 31 = s.clearing ∧
      ∀ t : Taker,
        ((s.readWord (takerAddress t 7)).extractLsb' 29 3).toNat = (s.stack t).length ∧
        (∀ j : Fin 4,
          ((s.readWord (takerAddress t 7)).extractLsb' (7 * j.val) 7).toNat =
            (((s.stack t).reverse[j.val]?).map Fin.val).getD 127) ∧
        ((s.readWord (takerAddress t 8)).extractLsb' 0 3).toNat = (s.port t).answer.code ∧
        ((s.readWord (takerAddress t 8)).extractLsb' 8 3).toNat = (s.withdrawnOf t).length

/-- The invariant of the part holds at reset and whenever power-on or RESETn is taken. -/
def Obligations.ResetStateIsSound : Prop :=
  Safety.Sound State.reset ∧
    ∀ s s' : State, exec .powerOn s = .next s' ∨ exec .resetnAssert s = .next s' → Safety.Sound s'

/-- Every step keeps the whole invariant: queues and stacks match the entries (R29, R52), levels increase on
each stack (R52), withdrawn lists hold at most 4 numbers none of which is on the stack (R65), keys are
distinct (R8), and the limits, strings, conditions and the sweep page are as their rules say. -/
def Obligations.StepKeepsThePartSound : Prop :=
  ∀ s s' : State, Safety.Sound s → step s = .next s' → Safety.Sound s'

/-- R164: every step keeps each condition row's flag and culprit present exactly when its count is above
0. -/
def Obligations.StepKeepsConditionRows : Prop :=
  ∀ s s' : State, Safety.ConditionsOk s → step s = .next s' → Safety.ConditionsOk s'

/-- R8: every step keeps the keys of bound entries distinct, with no slot named both with and without a
mark. -/
def Obligations.StepKeepsKeysDistinct : Prop :=
  ∀ s s' : State, Safety.KeysDistinct s → step s = .next s' → Safety.KeysDistinct s'

/-- R98 to R110, R120: every step keeps the string engines as their rules say they stand in each state. -/
def Obligations.StepKeepsStringEngines : Prop :=
  ∀ s s' : State, Safety.StringsOk s → step s = .next s' → Safety.StringsOk s'
end

