-- ==== Sys2Proof/Laws/State.lean ====
section
/-! SUPPORT. Each field of the state after each named update: one lemma for one field of one update, true by
definition. -/

namespace Sys2Proof.Machine

/-! ### setEntry -/

@[simp] theorem State.pending_setEntry (s : State) (e : EntryNo) (o : Option Entry) :
    (s.setEntry e o).pending = s.pending := rfl

@[simp] theorem State.inReset_setEntry (s : State) (e : EntryNo) (o : Option Entry) :
    (s.setEntry e o).inReset = s.inReset := rfl

@[simp] theorem State.entries_setEntry (s : State) (e : EntryNo) (o : Option Entry) :
    (s.setEntry e o).entries = s.entries.set e.val o e.isLt := rfl

@[simp] theorem State.queues_setEntry (s : State) (e : EntryNo) (o : Option Entry) :
    (s.setEntry e o).queues = s.queues := rfl

@[simp] theorem State.serviceStacks_setEntry (s : State) (e : EntryNo) (o : Option Entry) :
    (s.setEntry e o).serviceStacks = s.serviceStacks := rfl

@[simp] theorem State.withdrawn_setEntry (s : State) (e : EntryNo) (o : Option Entry) :
    (s.setEntry e o).withdrawn = s.withdrawn := rfl

@[simp] theorem State.arbiter_setEntry (s : State) (e : EntryNo) (o : Option Entry) :
    (s.setEntry e o).arbiter = s.arbiter := rfl

@[simp] theorem State.takers_setEntry (s : State) (e : EntryNo) (o : Option Entry) :
    (s.setEntry e o).takers = s.takers := rfl

@[simp] theorem State.limits_setEntry (s : State) (e : EntryNo) (o : Option Entry) :
    (s.setEntry e o).limits = s.limits := rfl

@[simp] theorem State.prescaler_setEntry (s : State) (e : EntryNo) (o : Option Entry) :
    (s.setEntry e o).prescaler = s.prescaler := rfl

@[simp] theorem State.prescaleCount_setEntry (s : State) (e : EntryNo) (o : Option Entry) :
    (s.setEntry e o).prescaleCount = s.prescaleCount := rfl

@[simp] theorem State.strings_setEntry (s : State) (e : EntryNo) (o : Option Entry) :
    (s.setEntry e o).strings = s.strings := rfl

@[simp] theorem State.masks_setEntry (s : State) (e : EntryNo) (o : Option Entry) :
    (s.setEntry e o).masks = s.masks := rfl

@[simp] theorem State.cmd_setEntry (s : State) (e : EntryNo) (o : Option Entry) :
    (s.setEntry e o).cmd = s.cmd := rfl

@[simp] theorem State.res_setEntry (s : State) (e : EntryNo) (o : Option Entry) :
    (s.setEntry e o).res = s.res := rfl

@[simp] theorem State.slot_setEntry (s : State) (e : EntryNo) (o : Option Entry) :
    (s.setEntry e o).slot = s.slot := rfl

@[simp] theorem State.lastCommand_setEntry (s : State) (e : EntryNo) (o : Option Entry) :
    (s.setEntry e o).lastCommand = s.lastCommand := rfl

@[simp] theorem State.resultCode_setEntry (s : State) (e : EntryNo) (o : Option Entry) :
    (s.setEntry e o).resultCode = s.resultCode := rfl

@[simp] theorem State.doneFlag_setEntry (s : State) (e : EntryNo) (o : Option Entry) :
    (s.setEntry e o).doneFlag = s.doneFlag := rfl

@[simp] theorem State.doneEnable_setEntry (s : State) (e : EntryNo) (o : Option Entry) :
    (s.setEntry e o).doneEnable = s.doneEnable := rfl

@[simp] theorem State.mstatData_setEntry (s : State) (e : EntryNo) (o : Option Entry) :
    (s.setEntry e o).mstatData = s.mstatData := rfl

@[simp] theorem State.conditions_setEntry (s : State) (e : EntryNo) (o : Option Entry) :
    (s.setEntry e o).conditions = s.conditions := rfl

/-! ### setStack -/

@[simp] theorem State.pending_setStack (s : State) (t : Taker) (l : List EntryNo) :
    (s.setStack t l).pending = s.pending := rfl

@[simp] theorem State.inReset_setStack (s : State) (t : Taker) (l : List EntryNo) :
    (s.setStack t l).inReset = s.inReset := rfl

@[simp] theorem State.entries_setStack (s : State) (t : Taker) (l : List EntryNo) :
    (s.setStack t l).entries = s.entries := rfl

@[simp] theorem State.queues_setStack (s : State) (t : Taker) (l : List EntryNo) :
    (s.setStack t l).queues = s.queues := rfl

@[simp] theorem State.serviceStacks_setStack (s : State) (t : Taker) (l : List EntryNo) :
    (s.setStack t l).serviceStacks = s.serviceStacks.set t.val l t.isLt := rfl

@[simp] theorem State.withdrawn_setStack (s : State) (t : Taker) (l : List EntryNo) :
    (s.setStack t l).withdrawn = s.withdrawn := rfl

@[simp] theorem State.arbiter_setStack (s : State) (t : Taker) (l : List EntryNo) :
    (s.setStack t l).arbiter = s.arbiter := rfl

@[simp] theorem State.takers_setStack (s : State) (t : Taker) (l : List EntryNo) :
    (s.setStack t l).takers = s.takers := rfl

@[simp] theorem State.limits_setStack (s : State) (t : Taker) (l : List EntryNo) :
    (s.setStack t l).limits = s.limits := rfl

@[simp] theorem State.prescaler_setStack (s : State) (t : Taker) (l : List EntryNo) :
    (s.setStack t l).prescaler = s.prescaler := rfl

@[simp] theorem State.prescaleCount_setStack (s : State) (t : Taker) (l : List EntryNo) :
    (s.setStack t l).prescaleCount = s.prescaleCount := rfl

@[simp] theorem State.strings_setStack (s : State) (t : Taker) (l : List EntryNo) :
    (s.setStack t l).strings = s.strings := rfl

@[simp] theorem State.masks_setStack (s : State) (t : Taker) (l : List EntryNo) :
    (s.setStack t l).masks = s.masks := rfl

@[simp] theorem State.cmd_setStack (s : State) (t : Taker) (l : List EntryNo) :
    (s.setStack t l).cmd = s.cmd := rfl

@[simp] theorem State.res_setStack (s : State) (t : Taker) (l : List EntryNo) :
    (s.setStack t l).res = s.res := rfl

@[simp] theorem State.slot_setStack (s : State) (t : Taker) (l : List EntryNo) :
    (s.setStack t l).slot = s.slot := rfl

@[simp] theorem State.lastCommand_setStack (s : State) (t : Taker) (l : List EntryNo) :
    (s.setStack t l).lastCommand = s.lastCommand := rfl

@[simp] theorem State.resultCode_setStack (s : State) (t : Taker) (l : List EntryNo) :
    (s.setStack t l).resultCode = s.resultCode := rfl

@[simp] theorem State.doneFlag_setStack (s : State) (t : Taker) (l : List EntryNo) :
    (s.setStack t l).doneFlag = s.doneFlag := rfl

@[simp] theorem State.doneEnable_setStack (s : State) (t : Taker) (l : List EntryNo) :
    (s.setStack t l).doneEnable = s.doneEnable := rfl

@[simp] theorem State.mstatData_setStack (s : State) (t : Taker) (l : List EntryNo) :
    (s.setStack t l).mstatData = s.mstatData := rfl

@[simp] theorem State.conditions_setStack (s : State) (t : Taker) (l : List EntryNo) :
    (s.setStack t l).conditions = s.conditions := rfl

/-! ### setWithdrawn -/

@[simp] theorem State.pending_setWithdrawn (s : State) (t : Taker) (l : List EntryNo) :
    (s.setWithdrawn t l).pending = s.pending := rfl

@[simp] theorem State.inReset_setWithdrawn (s : State) (t : Taker) (l : List EntryNo) :
    (s.setWithdrawn t l).inReset = s.inReset := rfl

@[simp] theorem State.entries_setWithdrawn (s : State) (t : Taker) (l : List EntryNo) :
    (s.setWithdrawn t l).entries = s.entries := rfl

@[simp] theorem State.queues_setWithdrawn (s : State) (t : Taker) (l : List EntryNo) :
    (s.setWithdrawn t l).queues = s.queues := rfl

@[simp] theorem State.serviceStacks_setWithdrawn (s : State) (t : Taker) (l : List EntryNo) :
    (s.setWithdrawn t l).serviceStacks = s.serviceStacks := rfl

@[simp] theorem State.withdrawn_setWithdrawn (s : State) (t : Taker) (l : List EntryNo) :
    (s.setWithdrawn t l).withdrawn = s.withdrawn.set t.val l t.isLt := rfl

@[simp] theorem State.arbiter_setWithdrawn (s : State) (t : Taker) (l : List EntryNo) :
    (s.setWithdrawn t l).arbiter = s.arbiter := rfl

@[simp] theorem State.takers_setWithdrawn (s : State) (t : Taker) (l : List EntryNo) :
    (s.setWithdrawn t l).takers = s.takers := rfl

@[simp] theorem State.limits_setWithdrawn (s : State) (t : Taker) (l : List EntryNo) :
    (s.setWithdrawn t l).limits = s.limits := rfl

@[simp] theorem State.prescaler_setWithdrawn (s : State) (t : Taker) (l : List EntryNo) :
    (s.setWithdrawn t l).prescaler = s.prescaler := rfl

@[simp] theorem State.prescaleCount_setWithdrawn (s : State) (t : Taker) (l : List EntryNo) :
    (s.setWithdrawn t l).prescaleCount = s.prescaleCount := rfl

@[simp] theorem State.strings_setWithdrawn (s : State) (t : Taker) (l : List EntryNo) :
    (s.setWithdrawn t l).strings = s.strings := rfl

@[simp] theorem State.masks_setWithdrawn (s : State) (t : Taker) (l : List EntryNo) :
    (s.setWithdrawn t l).masks = s.masks := rfl

@[simp] theorem State.cmd_setWithdrawn (s : State) (t : Taker) (l : List EntryNo) :
    (s.setWithdrawn t l).cmd = s.cmd := rfl

@[simp] theorem State.res_setWithdrawn (s : State) (t : Taker) (l : List EntryNo) :
    (s.setWithdrawn t l).res = s.res := rfl

@[simp] theorem State.slot_setWithdrawn (s : State) (t : Taker) (l : List EntryNo) :
    (s.setWithdrawn t l).slot = s.slot := rfl

@[simp] theorem State.lastCommand_setWithdrawn (s : State) (t : Taker) (l : List EntryNo) :
    (s.setWithdrawn t l).lastCommand = s.lastCommand := rfl

@[simp] theorem State.resultCode_setWithdrawn (s : State) (t : Taker) (l : List EntryNo) :
    (s.setWithdrawn t l).resultCode = s.resultCode := rfl

@[simp] theorem State.doneFlag_setWithdrawn (s : State) (t : Taker) (l : List EntryNo) :
    (s.setWithdrawn t l).doneFlag = s.doneFlag := rfl

@[simp] theorem State.doneEnable_setWithdrawn (s : State) (t : Taker) (l : List EntryNo) :
    (s.setWithdrawn t l).doneEnable = s.doneEnable := rfl

@[simp] theorem State.mstatData_setWithdrawn (s : State) (t : Taker) (l : List EntryNo) :
    (s.setWithdrawn t l).mstatData = s.mstatData := rfl

@[simp] theorem State.conditions_setWithdrawn (s : State) (t : Taker) (l : List EntryNo) :
    (s.setWithdrawn t l).conditions = s.conditions := rfl

/-! ### setPort -/

@[simp] theorem State.pending_setPort (s : State) (t : Taker) (p : TakerPort) :
    (s.setPort t p).pending = s.pending := rfl

@[simp] theorem State.inReset_setPort (s : State) (t : Taker) (p : TakerPort) :
    (s.setPort t p).inReset = s.inReset := rfl

@[simp] theorem State.entries_setPort (s : State) (t : Taker) (p : TakerPort) :
    (s.setPort t p).entries = s.entries := rfl

@[simp] theorem State.queues_setPort (s : State) (t : Taker) (p : TakerPort) :
    (s.setPort t p).queues = s.queues := rfl

@[simp] theorem State.serviceStacks_setPort (s : State) (t : Taker) (p : TakerPort) :
    (s.setPort t p).serviceStacks = s.serviceStacks := rfl

@[simp] theorem State.withdrawn_setPort (s : State) (t : Taker) (p : TakerPort) :
    (s.setPort t p).withdrawn = s.withdrawn := rfl

@[simp] theorem State.arbiter_setPort (s : State) (t : Taker) (p : TakerPort) :
    (s.setPort t p).arbiter = s.arbiter := rfl

@[simp] theorem State.takers_setPort (s : State) (t : Taker) (p : TakerPort) :
    (s.setPort t p).takers = s.takers.set t.val p t.isLt := rfl

@[simp] theorem State.limits_setPort (s : State) (t : Taker) (p : TakerPort) :
    (s.setPort t p).limits = s.limits := rfl

@[simp] theorem State.prescaler_setPort (s : State) (t : Taker) (p : TakerPort) :
    (s.setPort t p).prescaler = s.prescaler := rfl

@[simp] theorem State.prescaleCount_setPort (s : State) (t : Taker) (p : TakerPort) :
    (s.setPort t p).prescaleCount = s.prescaleCount := rfl

@[simp] theorem State.strings_setPort (s : State) (t : Taker) (p : TakerPort) :
    (s.setPort t p).strings = s.strings := rfl

@[simp] theorem State.masks_setPort (s : State) (t : Taker) (p : TakerPort) :
    (s.setPort t p).masks = s.masks := rfl

@[simp] theorem State.cmd_setPort (s : State) (t : Taker) (p : TakerPort) :
    (s.setPort t p).cmd = s.cmd := rfl

@[simp] theorem State.res_setPort (s : State) (t : Taker) (p : TakerPort) :
    (s.setPort t p).res = s.res := rfl

@[simp] theorem State.slot_setPort (s : State) (t : Taker) (p : TakerPort) :
    (s.setPort t p).slot = s.slot := rfl

@[simp] theorem State.lastCommand_setPort (s : State) (t : Taker) (p : TakerPort) :
    (s.setPort t p).lastCommand = s.lastCommand := rfl

@[simp] theorem State.resultCode_setPort (s : State) (t : Taker) (p : TakerPort) :
    (s.setPort t p).resultCode = s.resultCode := rfl

@[simp] theorem State.doneFlag_setPort (s : State) (t : Taker) (p : TakerPort) :
    (s.setPort t p).doneFlag = s.doneFlag := rfl

@[simp] theorem State.doneEnable_setPort (s : State) (t : Taker) (p : TakerPort) :
    (s.setPort t p).doneEnable = s.doneEnable := rfl

@[simp] theorem State.mstatData_setPort (s : State) (t : Taker) (p : TakerPort) :
    (s.setPort t p).mstatData = s.mstatData := rfl

@[simp] theorem State.conditions_setPort (s : State) (t : Taker) (p : TakerPort) :
    (s.setPort t p).conditions = s.conditions := rfl

/-! ### setString -/

@[simp] theorem State.pending_setString (s : State) (n : StringNo) (g : StringEngine) :
    (s.setString n g).pending = s.pending := rfl

@[simp] theorem State.inReset_setString (s : State) (n : StringNo) (g : StringEngine) :
    (s.setString n g).inReset = s.inReset := rfl

@[simp] theorem State.entries_setString (s : State) (n : StringNo) (g : StringEngine) :
    (s.setString n g).entries = s.entries := rfl

@[simp] theorem State.queues_setString (s : State) (n : StringNo) (g : StringEngine) :
    (s.setString n g).queues = s.queues := rfl

@[simp] theorem State.serviceStacks_setString (s : State) (n : StringNo) (g : StringEngine) :
    (s.setString n g).serviceStacks = s.serviceStacks := rfl

@[simp] theorem State.withdrawn_setString (s : State) (n : StringNo) (g : StringEngine) :
    (s.setString n g).withdrawn = s.withdrawn := rfl

@[simp] theorem State.arbiter_setString (s : State) (n : StringNo) (g : StringEngine) :
    (s.setString n g).arbiter = s.arbiter := rfl

@[simp] theorem State.takers_setString (s : State) (n : StringNo) (g : StringEngine) :
    (s.setString n g).takers = s.takers := rfl

@[simp] theorem State.limits_setString (s : State) (n : StringNo) (g : StringEngine) :
    (s.setString n g).limits = s.limits := rfl

@[simp] theorem State.prescaler_setString (s : State) (n : StringNo) (g : StringEngine) :
    (s.setString n g).prescaler = s.prescaler := rfl

@[simp] theorem State.prescaleCount_setString (s : State) (n : StringNo) (g : StringEngine) :
    (s.setString n g).prescaleCount = s.prescaleCount := rfl

@[simp] theorem State.strings_setString (s : State) (n : StringNo) (g : StringEngine) :
    (s.setString n g).strings = s.strings.set n.val g n.isLt := rfl

@[simp] theorem State.masks_setString (s : State) (n : StringNo) (g : StringEngine) :
    (s.setString n g).masks = s.masks := rfl

@[simp] theorem State.cmd_setString (s : State) (n : StringNo) (g : StringEngine) :
    (s.setString n g).cmd = s.cmd := rfl

@[simp] theorem State.res_setString (s : State) (n : StringNo) (g : StringEngine) :
    (s.setString n g).res = s.res := rfl

@[simp] theorem State.slot_setString (s : State) (n : StringNo) (g : StringEngine) :
    (s.setString n g).slot = s.slot := rfl

@[simp] theorem State.lastCommand_setString (s : State) (n : StringNo) (g : StringEngine) :
    (s.setString n g).lastCommand = s.lastCommand := rfl

@[simp] theorem State.resultCode_setString (s : State) (n : StringNo) (g : StringEngine) :
    (s.setString n g).resultCode = s.resultCode := rfl

@[simp] theorem State.doneFlag_setString (s : State) (n : StringNo) (g : StringEngine) :
    (s.setString n g).doneFlag = s.doneFlag := rfl

@[simp] theorem State.doneEnable_setString (s : State) (n : StringNo) (g : StringEngine) :
    (s.setString n g).doneEnable = s.doneEnable := rfl

@[simp] theorem State.mstatData_setString (s : State) (n : StringNo) (g : StringEngine) :
    (s.setString n g).mstatData = s.mstatData := rfl

@[simp] theorem State.conditions_setString (s : State) (n : StringNo) (g : StringEngine) :
    (s.setString n g).conditions = s.conditions := rfl

/-! ### setCond -/

@[simp] theorem State.pending_setCond (s : State) (r : CondRow) (c : Condition) :
    (s.setCond r c).pending = s.pending := rfl

@[simp] theorem State.inReset_setCond (s : State) (r : CondRow) (c : Condition) :
    (s.setCond r c).inReset = s.inReset := rfl

@[simp] theorem State.entries_setCond (s : State) (r : CondRow) (c : Condition) :
    (s.setCond r c).entries = s.entries := rfl

@[simp] theorem State.queues_setCond (s : State) (r : CondRow) (c : Condition) :
    (s.setCond r c).queues = s.queues := rfl

@[simp] theorem State.serviceStacks_setCond (s : State) (r : CondRow) (c : Condition) :
    (s.setCond r c).serviceStacks = s.serviceStacks := rfl

@[simp] theorem State.withdrawn_setCond (s : State) (r : CondRow) (c : Condition) :
    (s.setCond r c).withdrawn = s.withdrawn := rfl

@[simp] theorem State.arbiter_setCond (s : State) (r : CondRow) (c : Condition) :
    (s.setCond r c).arbiter = s.arbiter := rfl

@[simp] theorem State.takers_setCond (s : State) (r : CondRow) (c : Condition) :
    (s.setCond r c).takers = s.takers := rfl

@[simp] theorem State.limits_setCond (s : State) (r : CondRow) (c : Condition) :
    (s.setCond r c).limits = s.limits := rfl

@[simp] theorem State.prescaler_setCond (s : State) (r : CondRow) (c : Condition) :
    (s.setCond r c).prescaler = s.prescaler := rfl

@[simp] theorem State.prescaleCount_setCond (s : State) (r : CondRow) (c : Condition) :
    (s.setCond r c).prescaleCount = s.prescaleCount := rfl

@[simp] theorem State.strings_setCond (s : State) (r : CondRow) (c : Condition) :
    (s.setCond r c).strings = s.strings := rfl

@[simp] theorem State.masks_setCond (s : State) (r : CondRow) (c : Condition) :
    (s.setCond r c).masks = s.masks := rfl

@[simp] theorem State.cmd_setCond (s : State) (r : CondRow) (c : Condition) :
    (s.setCond r c).cmd = s.cmd := rfl

@[simp] theorem State.res_setCond (s : State) (r : CondRow) (c : Condition) :
    (s.setCond r c).res = s.res := rfl

@[simp] theorem State.slot_setCond (s : State) (r : CondRow) (c : Condition) :
    (s.setCond r c).slot = s.slot := rfl

@[simp] theorem State.lastCommand_setCond (s : State) (r : CondRow) (c : Condition) :
    (s.setCond r c).lastCommand = s.lastCommand := rfl

@[simp] theorem State.resultCode_setCond (s : State) (r : CondRow) (c : Condition) :
    (s.setCond r c).resultCode = s.resultCode := rfl

@[simp] theorem State.doneFlag_setCond (s : State) (r : CondRow) (c : Condition) :
    (s.setCond r c).doneFlag = s.doneFlag := rfl

@[simp] theorem State.doneEnable_setCond (s : State) (r : CondRow) (c : Condition) :
    (s.setCond r c).doneEnable = s.doneEnable := rfl

@[simp] theorem State.mstatData_setCond (s : State) (r : CondRow) (c : Condition) :
    (s.setCond r c).mstatData = s.mstatData := rfl

@[simp] theorem State.conditions_setCond (s : State) (r : CondRow) (c : Condition) :
    (s.setCond r c).conditions = s.conditions.set r.ix.val c r.ix.isLt := rfl

/-! ### report -/

@[simp] theorem State.pending_report (s : State) (r : CondRow) (w : Culprit) :
    (s.report r w).pending = s.pending := rfl

@[simp] theorem State.inReset_report (s : State) (r : CondRow) (w : Culprit) :
    (s.report r w).inReset = s.inReset := rfl

@[simp] theorem State.entries_report (s : State) (r : CondRow) (w : Culprit) :
    (s.report r w).entries = s.entries := rfl

@[simp] theorem State.queues_report (s : State) (r : CondRow) (w : Culprit) :
    (s.report r w).queues = s.queues := rfl

@[simp] theorem State.serviceStacks_report (s : State) (r : CondRow) (w : Culprit) :
    (s.report r w).serviceStacks = s.serviceStacks := rfl

@[simp] theorem State.withdrawn_report (s : State) (r : CondRow) (w : Culprit) :
    (s.report r w).withdrawn = s.withdrawn := rfl

@[simp] theorem State.arbiter_report (s : State) (r : CondRow) (w : Culprit) :
    (s.report r w).arbiter = s.arbiter := rfl

@[simp] theorem State.takers_report (s : State) (r : CondRow) (w : Culprit) :
    (s.report r w).takers = s.takers := rfl

@[simp] theorem State.limits_report (s : State) (r : CondRow) (w : Culprit) :
    (s.report r w).limits = s.limits := rfl

@[simp] theorem State.prescaler_report (s : State) (r : CondRow) (w : Culprit) :
    (s.report r w).prescaler = s.prescaler := rfl

@[simp] theorem State.prescaleCount_report (s : State) (r : CondRow) (w : Culprit) :
    (s.report r w).prescaleCount = s.prescaleCount := rfl

@[simp] theorem State.strings_report (s : State) (r : CondRow) (w : Culprit) :
    (s.report r w).strings = s.strings := rfl

@[simp] theorem State.masks_report (s : State) (r : CondRow) (w : Culprit) :
    (s.report r w).masks = s.masks := rfl

@[simp] theorem State.cmd_report (s : State) (r : CondRow) (w : Culprit) :
    (s.report r w).cmd = s.cmd := rfl

@[simp] theorem State.res_report (s : State) (r : CondRow) (w : Culprit) :
    (s.report r w).res = s.res := rfl

@[simp] theorem State.slot_report (s : State) (r : CondRow) (w : Culprit) :
    (s.report r w).slot = s.slot := rfl

@[simp] theorem State.lastCommand_report (s : State) (r : CondRow) (w : Culprit) :
    (s.report r w).lastCommand = s.lastCommand := rfl

@[simp] theorem State.resultCode_report (s : State) (r : CondRow) (w : Culprit) :
    (s.report r w).resultCode = s.resultCode := rfl

@[simp] theorem State.doneFlag_report (s : State) (r : CondRow) (w : Culprit) :
    (s.report r w).doneFlag = s.doneFlag := rfl

@[simp] theorem State.doneEnable_report (s : State) (r : CondRow) (w : Culprit) :
    (s.report r w).doneEnable = s.doneEnable := rfl

@[simp] theorem State.mstatData_report (s : State) (r : CondRow) (w : Culprit) :
    (s.report r w).mstatData = s.mstatData := rfl

@[simp] theorem State.conditions_report (s : State) (r : CondRow) (w : Culprit) :
    (s.report r w).conditions = s.conditions.set r.ix.val ((s.cond r).reported w) r.ix.isLt := rfl

/-! ### setMask -/

@[simp] theorem State.pending_setMask (s : State) (c : Channel) (m : TakerSet) :
    (s.setMask c m).pending = s.pending := rfl

@[simp] theorem State.inReset_setMask (s : State) (c : Channel) (m : TakerSet) :
    (s.setMask c m).inReset = s.inReset := rfl

@[simp] theorem State.entries_setMask (s : State) (c : Channel) (m : TakerSet) :
    (s.setMask c m).entries = s.entries := rfl

@[simp] theorem State.queues_setMask (s : State) (c : Channel) (m : TakerSet) :
    (s.setMask c m).queues = s.queues := rfl

@[simp] theorem State.serviceStacks_setMask (s : State) (c : Channel) (m : TakerSet) :
    (s.setMask c m).serviceStacks = s.serviceStacks := rfl

@[simp] theorem State.withdrawn_setMask (s : State) (c : Channel) (m : TakerSet) :
    (s.setMask c m).withdrawn = s.withdrawn := rfl

@[simp] theorem State.arbiter_setMask (s : State) (c : Channel) (m : TakerSet) :
    (s.setMask c m).arbiter = s.arbiter := rfl

@[simp] theorem State.takers_setMask (s : State) (c : Channel) (m : TakerSet) :
    (s.setMask c m).takers = s.takers := rfl

@[simp] theorem State.limits_setMask (s : State) (c : Channel) (m : TakerSet) :
    (s.setMask c m).limits = s.limits := rfl

@[simp] theorem State.prescaler_setMask (s : State) (c : Channel) (m : TakerSet) :
    (s.setMask c m).prescaler = s.prescaler := rfl

@[simp] theorem State.prescaleCount_setMask (s : State) (c : Channel) (m : TakerSet) :
    (s.setMask c m).prescaleCount = s.prescaleCount := rfl

@[simp] theorem State.strings_setMask (s : State) (c : Channel) (m : TakerSet) :
    (s.setMask c m).strings = s.strings := rfl

@[simp] theorem State.masks_setMask (s : State) (c : Channel) (m : TakerSet) :
    (s.setMask c m).masks = s.masks.set c.val m c.isLt := rfl

@[simp] theorem State.cmd_setMask (s : State) (c : Channel) (m : TakerSet) :
    (s.setMask c m).cmd = s.cmd := rfl

@[simp] theorem State.res_setMask (s : State) (c : Channel) (m : TakerSet) :
    (s.setMask c m).res = s.res := rfl

@[simp] theorem State.slot_setMask (s : State) (c : Channel) (m : TakerSet) :
    (s.setMask c m).slot = s.slot := rfl

@[simp] theorem State.lastCommand_setMask (s : State) (c : Channel) (m : TakerSet) :
    (s.setMask c m).lastCommand = s.lastCommand := rfl

@[simp] theorem State.resultCode_setMask (s : State) (c : Channel) (m : TakerSet) :
    (s.setMask c m).resultCode = s.resultCode := rfl

@[simp] theorem State.doneFlag_setMask (s : State) (c : Channel) (m : TakerSet) :
    (s.setMask c m).doneFlag = s.doneFlag := rfl

@[simp] theorem State.doneEnable_setMask (s : State) (c : Channel) (m : TakerSet) :
    (s.setMask c m).doneEnable = s.doneEnable := rfl

@[simp] theorem State.mstatData_setMask (s : State) (c : Channel) (m : TakerSet) :
    (s.setMask c m).mstatData = s.mstatData := rfl

@[simp] theorem State.conditions_setMask (s : State) (c : Channel) (m : TakerSet) :
    (s.setMask c m).conditions = s.conditions := rfl

/-! ### setEnabled -/

@[simp] theorem State.pending_setEnabled (s : State) (t : Taker) (on : Bool) :
    (s.setEnabled t on).pending = s.pending := rfl

@[simp] theorem State.inReset_setEnabled (s : State) (t : Taker) (on : Bool) :
    (s.setEnabled t on).inReset = s.inReset := rfl

@[simp] theorem State.entries_setEnabled (s : State) (t : Taker) (on : Bool) :
    (s.setEnabled t on).entries = s.entries := rfl

@[simp] theorem State.queues_setEnabled (s : State) (t : Taker) (on : Bool) :
    (s.setEnabled t on).queues = s.queues := rfl

@[simp] theorem State.serviceStacks_setEnabled (s : State) (t : Taker) (on : Bool) :
    (s.setEnabled t on).serviceStacks = s.serviceStacks := rfl

@[simp] theorem State.withdrawn_setEnabled (s : State) (t : Taker) (on : Bool) :
    (s.setEnabled t on).withdrawn = s.withdrawn := rfl

@[simp] theorem State.arbiter_setEnabled (s : State) (t : Taker) (on : Bool) :
    (s.setEnabled t on).arbiter = s.arbiter := rfl

@[simp] theorem State.takers_setEnabled (s : State) (t : Taker) (on : Bool) :
    (s.setEnabled t on).takers = s.takers.set t.val { s.port t with enabled := on } t.isLt := rfl

@[simp] theorem State.limits_setEnabled (s : State) (t : Taker) (on : Bool) :
    (s.setEnabled t on).limits = s.limits := rfl

@[simp] theorem State.prescaler_setEnabled (s : State) (t : Taker) (on : Bool) :
    (s.setEnabled t on).prescaler = s.prescaler := rfl

@[simp] theorem State.prescaleCount_setEnabled (s : State) (t : Taker) (on : Bool) :
    (s.setEnabled t on).prescaleCount = s.prescaleCount := rfl

@[simp] theorem State.strings_setEnabled (s : State) (t : Taker) (on : Bool) :
    (s.setEnabled t on).strings = s.strings := rfl

@[simp] theorem State.masks_setEnabled (s : State) (t : Taker) (on : Bool) :
    (s.setEnabled t on).masks = s.masks := rfl

@[simp] theorem State.cmd_setEnabled (s : State) (t : Taker) (on : Bool) :
    (s.setEnabled t on).cmd = s.cmd := rfl

@[simp] theorem State.res_setEnabled (s : State) (t : Taker) (on : Bool) :
    (s.setEnabled t on).res = s.res := rfl

@[simp] theorem State.slot_setEnabled (s : State) (t : Taker) (on : Bool) :
    (s.setEnabled t on).slot = s.slot := rfl

@[simp] theorem State.lastCommand_setEnabled (s : State) (t : Taker) (on : Bool) :
    (s.setEnabled t on).lastCommand = s.lastCommand := rfl

@[simp] theorem State.resultCode_setEnabled (s : State) (t : Taker) (on : Bool) :
    (s.setEnabled t on).resultCode = s.resultCode := rfl

@[simp] theorem State.doneFlag_setEnabled (s : State) (t : Taker) (on : Bool) :
    (s.setEnabled t on).doneFlag = s.doneFlag := rfl

@[simp] theorem State.doneEnable_setEnabled (s : State) (t : Taker) (on : Bool) :
    (s.setEnabled t on).doneEnable = s.doneEnable := rfl

@[simp] theorem State.mstatData_setEnabled (s : State) (t : Taker) (on : Bool) :
    (s.setEnabled t on).mstatData = s.mstatData := rfl

@[simp] theorem State.conditions_setEnabled (s : State) (t : Taker) (on : Bool) :
    (s.setEnabled t on).conditions = s.conditions := rfl

/-! ### returnRead -/

@[simp] theorem State.pending_returnRead (s : State) (t : Taker) (w : Word) :
    (s.returnRead t w).pending = s.pending := rfl

@[simp] theorem State.inReset_returnRead (s : State) (t : Taker) (w : Word) :
    (s.returnRead t w).inReset = s.inReset := rfl

@[simp] theorem State.entries_returnRead (s : State) (t : Taker) (w : Word) :
    (s.returnRead t w).entries = s.entries := rfl

@[simp] theorem State.queues_returnRead (s : State) (t : Taker) (w : Word) :
    (s.returnRead t w).queues = s.queues := rfl

@[simp] theorem State.serviceStacks_returnRead (s : State) (t : Taker) (w : Word) :
    (s.returnRead t w).serviceStacks = s.serviceStacks := rfl

@[simp] theorem State.withdrawn_returnRead (s : State) (t : Taker) (w : Word) :
    (s.returnRead t w).withdrawn = s.withdrawn := rfl

@[simp] theorem State.arbiter_returnRead (s : State) (t : Taker) (w : Word) :
    (s.returnRead t w).arbiter = s.arbiter := rfl

@[simp] theorem State.takers_returnRead (s : State) (t : Taker) (w : Word) :
    (s.returnRead t w).takers = s.takers.set t.val { s.port t with readData := some w } t.isLt := rfl

@[simp] theorem State.limits_returnRead (s : State) (t : Taker) (w : Word) :
    (s.returnRead t w).limits = s.limits := rfl

@[simp] theorem State.prescaler_returnRead (s : State) (t : Taker) (w : Word) :
    (s.returnRead t w).prescaler = s.prescaler := rfl

@[simp] theorem State.prescaleCount_returnRead (s : State) (t : Taker) (w : Word) :
    (s.returnRead t w).prescaleCount = s.prescaleCount := rfl

@[simp] theorem State.strings_returnRead (s : State) (t : Taker) (w : Word) :
    (s.returnRead t w).strings = s.strings := rfl

@[simp] theorem State.masks_returnRead (s : State) (t : Taker) (w : Word) :
    (s.returnRead t w).masks = s.masks := rfl

@[simp] theorem State.cmd_returnRead (s : State) (t : Taker) (w : Word) :
    (s.returnRead t w).cmd = s.cmd := rfl

@[simp] theorem State.res_returnRead (s : State) (t : Taker) (w : Word) :
    (s.returnRead t w).res = s.res := rfl

@[simp] theorem State.slot_returnRead (s : State) (t : Taker) (w : Word) :
    (s.returnRead t w).slot = s.slot := rfl

@[simp] theorem State.lastCommand_returnRead (s : State) (t : Taker) (w : Word) :
    (s.returnRead t w).lastCommand = s.lastCommand := rfl

@[simp] theorem State.resultCode_returnRead (s : State) (t : Taker) (w : Word) :
    (s.returnRead t w).resultCode = s.resultCode := rfl

@[simp] theorem State.doneFlag_returnRead (s : State) (t : Taker) (w : Word) :
    (s.returnRead t w).doneFlag = s.doneFlag := rfl

@[simp] theorem State.doneEnable_returnRead (s : State) (t : Taker) (w : Word) :
    (s.returnRead t w).doneEnable = s.doneEnable := rfl

@[simp] theorem State.mstatData_returnRead (s : State) (t : Taker) (w : Word) :
    (s.returnRead t w).mstatData = s.mstatData := rfl

@[simp] theorem State.conditions_returnRead (s : State) (t : Taker) (w : Word) :
    (s.returnRead t w).conditions = s.conditions := rfl

/-! ### setQueue: the queue of level 0 does not exist, so the update is by cases -/

@[simp] theorem State.pending_setQueue (s : State) (k : Level) (q : List EntryNo) :
    (s.setQueue k q).pending = s.pending := by
  unfold State.setQueue; split <;> rfl

@[simp] theorem State.inReset_setQueue (s : State) (k : Level) (q : List EntryNo) :
    (s.setQueue k q).inReset = s.inReset := by
  unfold State.setQueue; split <;> rfl

@[simp] theorem State.entries_setQueue (s : State) (k : Level) (q : List EntryNo) :
    (s.setQueue k q).entries = s.entries := by
  unfold State.setQueue; split <;> rfl

@[simp] theorem State.serviceStacks_setQueue (s : State) (k : Level) (q : List EntryNo) :
    (s.setQueue k q).serviceStacks = s.serviceStacks := by
  unfold State.setQueue; split <;> rfl

@[simp] theorem State.withdrawn_setQueue (s : State) (k : Level) (q : List EntryNo) :
    (s.setQueue k q).withdrawn = s.withdrawn := by
  unfold State.setQueue; split <;> rfl

@[simp] theorem State.arbiter_setQueue (s : State) (k : Level) (q : List EntryNo) :
    (s.setQueue k q).arbiter = s.arbiter := by
  unfold State.setQueue; split <;> rfl

@[simp] theorem State.takers_setQueue (s : State) (k : Level) (q : List EntryNo) :
    (s.setQueue k q).takers = s.takers := by
  unfold State.setQueue; split <;> rfl

@[simp] theorem State.limits_setQueue (s : State) (k : Level) (q : List EntryNo) :
    (s.setQueue k q).limits = s.limits := by
  unfold State.setQueue; split <;> rfl

@[simp] theorem State.prescaler_setQueue (s : State) (k : Level) (q : List EntryNo) :
    (s.setQueue k q).prescaler = s.prescaler := by
  unfold State.setQueue; split <;> rfl

@[simp] theorem State.prescaleCount_setQueue (s : State) (k : Level) (q : List EntryNo) :
    (s.setQueue k q).prescaleCount = s.prescaleCount := by
  unfold State.setQueue; split <;> rfl

@[simp] theorem State.strings_setQueue (s : State) (k : Level) (q : List EntryNo) :
    (s.setQueue k q).strings = s.strings := by
  unfold State.setQueue; split <;> rfl

@[simp] theorem State.masks_setQueue (s : State) (k : Level) (q : List EntryNo) :
    (s.setQueue k q).masks = s.masks := by
  unfold State.setQueue; split <;> rfl

@[simp] theorem State.cmd_setQueue (s : State) (k : Level) (q : List EntryNo) :
    (s.setQueue k q).cmd = s.cmd := by
  unfold State.setQueue; split <;> rfl

@[simp] theorem State.res_setQueue (s : State) (k : Level) (q : List EntryNo) :
    (s.setQueue k q).res = s.res := by
  unfold State.setQueue; split <;> rfl

@[simp] theorem State.slot_setQueue (s : State) (k : Level) (q : List EntryNo) :
    (s.setQueue k q).slot = s.slot := by
  unfold State.setQueue; split <;> rfl

@[simp] theorem State.lastCommand_setQueue (s : State) (k : Level) (q : List EntryNo) :
    (s.setQueue k q).lastCommand = s.lastCommand := by
  unfold State.setQueue; split <;> rfl

@[simp] theorem State.resultCode_setQueue (s : State) (k : Level) (q : List EntryNo) :
    (s.setQueue k q).resultCode = s.resultCode := by
  unfold State.setQueue; split <;> rfl

@[simp] theorem State.doneFlag_setQueue (s : State) (k : Level) (q : List EntryNo) :
    (s.setQueue k q).doneFlag = s.doneFlag := by
  unfold State.setQueue; split <;> rfl

@[simp] theorem State.doneEnable_setQueue (s : State) (k : Level) (q : List EntryNo) :
    (s.setQueue k q).doneEnable = s.doneEnable := by
  unfold State.setQueue; split <;> rfl

@[simp] theorem State.mstatData_setQueue (s : State) (k : Level) (q : List EntryNo) :
    (s.setQueue k q).mstatData = s.mstatData := by
  unfold State.setQueue; split <;> rfl

@[simp] theorem State.conditions_setQueue (s : State) (k : Level) (q : List EntryNo) :
    (s.setQueue k q).conditions = s.conditions := by
  unfold State.setQueue; split <;> rfl

/-! ### complete -/

@[simp] theorem State.pending_complete (s : State) (c : CommandCode) (r : ResultCode) (ws : List Word) :
    (s.complete c r ws).pending = s.pending := rfl

@[simp] theorem State.inReset_complete (s : State) (c : CommandCode) (r : ResultCode) (ws : List Word) :
    (s.complete c r ws).inReset = s.inReset := rfl

@[simp] theorem State.entries_complete (s : State) (c : CommandCode) (r : ResultCode) (ws : List Word) :
    (s.complete c r ws).entries = s.entries := rfl

@[simp] theorem State.queues_complete (s : State) (c : CommandCode) (r : ResultCode) (ws : List Word) :
    (s.complete c r ws).queues = s.queues := rfl

@[simp] theorem State.serviceStacks_complete (s : State) (c : CommandCode) (r : ResultCode) (ws : List Word) :
    (s.complete c r ws).serviceStacks = s.serviceStacks := rfl

@[simp] theorem State.withdrawn_complete (s : State) (c : CommandCode) (r : ResultCode) (ws : List Word) :
    (s.complete c r ws).withdrawn = s.withdrawn := rfl

@[simp] theorem State.arbiter_complete (s : State) (c : CommandCode) (r : ResultCode) (ws : List Word) :
    (s.complete c r ws).arbiter = s.arbiter := rfl

@[simp] theorem State.takers_complete (s : State) (c : CommandCode) (r : ResultCode) (ws : List Word) :
    (s.complete c r ws).takers = s.takers := rfl

@[simp] theorem State.limits_complete (s : State) (c : CommandCode) (r : ResultCode) (ws : List Word) :
    (s.complete c r ws).limits = s.limits := rfl

@[simp] theorem State.prescaler_complete (s : State) (c : CommandCode) (r : ResultCode) (ws : List Word) :
    (s.complete c r ws).prescaler = s.prescaler := rfl

@[simp] theorem State.prescaleCount_complete (s : State) (c : CommandCode) (r : ResultCode) (ws : List Word) :
    (s.complete c r ws).prescaleCount = s.prescaleCount := rfl

@[simp] theorem State.strings_complete (s : State) (c : CommandCode) (r : ResultCode) (ws : List Word) :
    (s.complete c r ws).strings = s.strings := rfl

@[simp] theorem State.masks_complete (s : State) (c : CommandCode) (r : ResultCode) (ws : List Word) :
    (s.complete c r ws).masks = s.masks := rfl

@[simp] theorem State.cmd_complete (s : State) (c : CommandCode) (r : ResultCode) (ws : List Word) :
    (s.complete c r ws).cmd = s.cmd := rfl

@[simp] theorem State.res_complete (s : State) (c : CommandCode) (r : ResultCode) (ws : List Word) :
    (s.complete c r ws).res = Vector.ofFn fun i : Fin 16 => (headWord c r :: ws).getD i.val 0#32 := rfl

@[simp] theorem State.slot_complete (s : State) (c : CommandCode) (r : ResultCode) (ws : List Word) :
    (s.complete c r ws).slot = .idle := rfl

@[simp] theorem State.lastCommand_complete (s : State) (c : CommandCode) (r : ResultCode) (ws : List Word) :
    (s.complete c r ws).lastCommand = some c := rfl

@[simp] theorem State.resultCode_complete (s : State) (c : CommandCode) (r : ResultCode) (ws : List Word) :
    (s.complete c r ws).resultCode = r := rfl

@[simp] theorem State.doneFlag_complete (s : State) (c : CommandCode) (r : ResultCode) (ws : List Word) :
    (s.complete c r ws).doneFlag = true := rfl

@[simp] theorem State.doneEnable_complete (s : State) (c : CommandCode) (r : ResultCode) (ws : List Word) :
    (s.complete c r ws).doneEnable = s.doneEnable := rfl

@[simp] theorem State.mstatData_complete (s : State) (c : CommandCode) (r : ResultCode) (ws : List Word) :
    (s.complete c r ws).mstatData = s.mstatData := rfl

@[simp] theorem State.conditions_complete (s : State) (c : CommandCode) (r : ResultCode) (ws : List Word) :
    (s.complete c r ws).conditions = s.conditions := rfl

end Sys2Proof.Machine
end

