-- ==== Sys2Proof/Laws/Access.lean ====
section
/-! SUPPORT. Reading one piece of state after a named update of the same piece or of another: what every
later proof about the operations rewrites with. -/

namespace Sys2Proof.Machine

/-! ### setEntry -/

@[simp] theorem State.queue_setEntry (s : State) (e : EntryNo) (o : Option Entry) (k' : Level) :
    (s.setEntry e o).queue k' = s.queue k' := rfl

@[simp] theorem State.stack_setEntry (s : State) (e : EntryNo) (o : Option Entry) (t' : Taker) :
    (s.setEntry e o).stack t' = s.stack t' := rfl

@[simp] theorem State.withdrawnOf_setEntry (s : State) (e : EntryNo) (o : Option Entry) (t' : Taker) :
    (s.setEntry e o).withdrawnOf t' = s.withdrawnOf t' := rfl

@[simp] theorem State.port_setEntry (s : State) (e : EntryNo) (o : Option Entry) (t' : Taker) :
    (s.setEntry e o).port t' = s.port t' := rfl

@[simp] theorem State.string_setEntry (s : State) (e : EntryNo) (o : Option Entry) (n' : StringNo) :
    (s.setEntry e o).string n' = s.string n' := rfl

@[simp] theorem State.cond_setEntry (s : State) (e : EntryNo) (o : Option Entry) (r' : CondRow) :
    (s.setEntry e o).cond r' = s.cond r' := rfl

@[simp] theorem State.clearing_setEntry (s : State) (e : EntryNo) (o : Option Entry) :
    (s.setEntry e o).clearing = s.clearing := rfl

@[simp] theorem State.busy_setEntry (s : State) (e : EntryNo) (o : Option Entry) :
    (s.setEntry e o).busy = s.busy := rfl

/-! ### setQueue -/

@[simp] theorem State.entry_setQueue (s : State) (k : Level) (q : List EntryNo) (e' : EntryNo) :
    (s.setQueue k q).entry e' = s.entry e' := by
  unfold State.setQueue; split <;> rfl

@[simp] theorem State.stack_setQueue (s : State) (k : Level) (q : List EntryNo) (t' : Taker) :
    (s.setQueue k q).stack t' = s.stack t' := by
  unfold State.setQueue; split <;> rfl

@[simp] theorem State.withdrawnOf_setQueue (s : State) (k : Level) (q : List EntryNo) (t' : Taker) :
    (s.setQueue k q).withdrawnOf t' = s.withdrawnOf t' := by
  unfold State.setQueue; split <;> rfl

@[simp] theorem State.port_setQueue (s : State) (k : Level) (q : List EntryNo) (t' : Taker) :
    (s.setQueue k q).port t' = s.port t' := by
  unfold State.setQueue; split <;> rfl

@[simp] theorem State.string_setQueue (s : State) (k : Level) (q : List EntryNo) (n' : StringNo) :
    (s.setQueue k q).string n' = s.string n' := by
  unfold State.setQueue; split <;> rfl

@[simp] theorem State.cond_setQueue (s : State) (k : Level) (q : List EntryNo) (r' : CondRow) :
    (s.setQueue k q).cond r' = s.cond r' := by
  unfold State.setQueue; split <;> rfl

@[simp] theorem State.clearing_setQueue (s : State) (k : Level) (q : List EntryNo) :
    (s.setQueue k q).clearing = s.clearing := by
  unfold State.setQueue; split <;> rfl

@[simp] theorem State.busy_setQueue (s : State) (k : Level) (q : List EntryNo) :
    (s.setQueue k q).busy = s.busy := by
  unfold State.setQueue; split <;> rfl

/-! ### setStack -/

@[simp] theorem State.entry_setStack (s : State) (t : Taker) (l : List EntryNo) (e' : EntryNo) :
    (s.setStack t l).entry e' = s.entry e' := rfl

@[simp] theorem State.queue_setStack (s : State) (t : Taker) (l : List EntryNo) (k' : Level) :
    (s.setStack t l).queue k' = s.queue k' := rfl

@[simp] theorem State.withdrawnOf_setStack (s : State) (t : Taker) (l : List EntryNo) (t' : Taker) :
    (s.setStack t l).withdrawnOf t' = s.withdrawnOf t' := rfl

@[simp] theorem State.port_setStack (s : State) (t : Taker) (l : List EntryNo) (t' : Taker) :
    (s.setStack t l).port t' = s.port t' := rfl

@[simp] theorem State.string_setStack (s : State) (t : Taker) (l : List EntryNo) (n' : StringNo) :
    (s.setStack t l).string n' = s.string n' := rfl

@[simp] theorem State.cond_setStack (s : State) (t : Taker) (l : List EntryNo) (r' : CondRow) :
    (s.setStack t l).cond r' = s.cond r' := rfl

@[simp] theorem State.clearing_setStack (s : State) (t : Taker) (l : List EntryNo) :
    (s.setStack t l).clearing = s.clearing := rfl

@[simp] theorem State.busy_setStack (s : State) (t : Taker) (l : List EntryNo) :
    (s.setStack t l).busy = s.busy := rfl

/-! ### setWithdrawn -/

@[simp] theorem State.entry_setWithdrawn (s : State) (t : Taker) (l : List EntryNo) (e' : EntryNo) :
    (s.setWithdrawn t l).entry e' = s.entry e' := rfl

@[simp] theorem State.queue_setWithdrawn (s : State) (t : Taker) (l : List EntryNo) (k' : Level) :
    (s.setWithdrawn t l).queue k' = s.queue k' := rfl

@[simp] theorem State.stack_setWithdrawn (s : State) (t : Taker) (l : List EntryNo) (t' : Taker) :
    (s.setWithdrawn t l).stack t' = s.stack t' := rfl

@[simp] theorem State.port_setWithdrawn (s : State) (t : Taker) (l : List EntryNo) (t' : Taker) :
    (s.setWithdrawn t l).port t' = s.port t' := rfl

@[simp] theorem State.string_setWithdrawn (s : State) (t : Taker) (l : List EntryNo) (n' : StringNo) :
    (s.setWithdrawn t l).string n' = s.string n' := rfl

@[simp] theorem State.cond_setWithdrawn (s : State) (t : Taker) (l : List EntryNo) (r' : CondRow) :
    (s.setWithdrawn t l).cond r' = s.cond r' := rfl

@[simp] theorem State.clearing_setWithdrawn (s : State) (t : Taker) (l : List EntryNo) :
    (s.setWithdrawn t l).clearing = s.clearing := rfl

@[simp] theorem State.busy_setWithdrawn (s : State) (t : Taker) (l : List EntryNo) :
    (s.setWithdrawn t l).busy = s.busy := rfl

/-! ### setPort -/

@[simp] theorem State.entry_setPort (s : State) (t : Taker) (p : TakerPort) (e' : EntryNo) :
    (s.setPort t p).entry e' = s.entry e' := rfl

@[simp] theorem State.queue_setPort (s : State) (t : Taker) (p : TakerPort) (k' : Level) :
    (s.setPort t p).queue k' = s.queue k' := rfl

@[simp] theorem State.stack_setPort (s : State) (t : Taker) (p : TakerPort) (t' : Taker) :
    (s.setPort t p).stack t' = s.stack t' := rfl

@[simp] theorem State.withdrawnOf_setPort (s : State) (t : Taker) (p : TakerPort) (t' : Taker) :
    (s.setPort t p).withdrawnOf t' = s.withdrawnOf t' := rfl

@[simp] theorem State.string_setPort (s : State) (t : Taker) (p : TakerPort) (n' : StringNo) :
    (s.setPort t p).string n' = s.string n' := rfl

@[simp] theorem State.cond_setPort (s : State) (t : Taker) (p : TakerPort) (r' : CondRow) :
    (s.setPort t p).cond r' = s.cond r' := rfl

@[simp] theorem State.clearing_setPort (s : State) (t : Taker) (p : TakerPort) :
    (s.setPort t p).clearing = s.clearing := rfl

@[simp] theorem State.busy_setPort (s : State) (t : Taker) (p : TakerPort) :
    (s.setPort t p).busy = s.busy := rfl

/-! ### setString -/

@[simp] theorem State.entry_setString (s : State) (n : StringNo) (g : StringEngine) (e' : EntryNo) :
    (s.setString n g).entry e' = s.entry e' := rfl

@[simp] theorem State.queue_setString (s : State) (n : StringNo) (g : StringEngine) (k' : Level) :
    (s.setString n g).queue k' = s.queue k' := rfl

@[simp] theorem State.stack_setString (s : State) (n : StringNo) (g : StringEngine) (t' : Taker) :
    (s.setString n g).stack t' = s.stack t' := rfl

@[simp] theorem State.withdrawnOf_setString (s : State) (n : StringNo) (g : StringEngine) (t' : Taker) :
    (s.setString n g).withdrawnOf t' = s.withdrawnOf t' := rfl

@[simp] theorem State.port_setString (s : State) (n : StringNo) (g : StringEngine) (t' : Taker) :
    (s.setString n g).port t' = s.port t' := rfl

@[simp] theorem State.cond_setString (s : State) (n : StringNo) (g : StringEngine) (r' : CondRow) :
    (s.setString n g).cond r' = s.cond r' := rfl

@[simp] theorem State.clearing_setString (s : State) (n : StringNo) (g : StringEngine) :
    (s.setString n g).clearing = s.clearing := rfl

@[simp] theorem State.busy_setString (s : State) (n : StringNo) (g : StringEngine) :
    (s.setString n g).busy = s.busy := rfl

/-! ### setCond -/

@[simp] theorem State.entry_setCond (s : State) (r : CondRow) (c : Condition) (e' : EntryNo) :
    (s.setCond r c).entry e' = s.entry e' := rfl

@[simp] theorem State.queue_setCond (s : State) (r : CondRow) (c : Condition) (k' : Level) :
    (s.setCond r c).queue k' = s.queue k' := rfl

@[simp] theorem State.stack_setCond (s : State) (r : CondRow) (c : Condition) (t' : Taker) :
    (s.setCond r c).stack t' = s.stack t' := rfl

@[simp] theorem State.withdrawnOf_setCond (s : State) (r : CondRow) (c : Condition) (t' : Taker) :
    (s.setCond r c).withdrawnOf t' = s.withdrawnOf t' := rfl

@[simp] theorem State.port_setCond (s : State) (r : CondRow) (c : Condition) (t' : Taker) :
    (s.setCond r c).port t' = s.port t' := rfl

@[simp] theorem State.string_setCond (s : State) (r : CondRow) (c : Condition) (n' : StringNo) :
    (s.setCond r c).string n' = s.string n' := rfl

@[simp] theorem State.clearing_setCond (s : State) (r : CondRow) (c : Condition) :
    (s.setCond r c).clearing = s.clearing := rfl

@[simp] theorem State.busy_setCond (s : State) (r : CondRow) (c : Condition) :
    (s.setCond r c).busy = s.busy := rfl

/-! ### report -/

@[simp] theorem State.entry_report (s : State) (r : CondRow) (w : Culprit) (e' : EntryNo) :
    (s.report r w).entry e' = s.entry e' := rfl

@[simp] theorem State.queue_report (s : State) (r : CondRow) (w : Culprit) (k' : Level) :
    (s.report r w).queue k' = s.queue k' := rfl

@[simp] theorem State.stack_report (s : State) (r : CondRow) (w : Culprit) (t' : Taker) :
    (s.report r w).stack t' = s.stack t' := rfl

@[simp] theorem State.withdrawnOf_report (s : State) (r : CondRow) (w : Culprit) (t' : Taker) :
    (s.report r w).withdrawnOf t' = s.withdrawnOf t' := rfl

@[simp] theorem State.port_report (s : State) (r : CondRow) (w : Culprit) (t' : Taker) :
    (s.report r w).port t' = s.port t' := rfl

@[simp] theorem State.string_report (s : State) (r : CondRow) (w : Culprit) (n' : StringNo) :
    (s.report r w).string n' = s.string n' := rfl

@[simp] theorem State.clearing_report (s : State) (r : CondRow) (w : Culprit) :
    (s.report r w).clearing = s.clearing := rfl

@[simp] theorem State.busy_report (s : State) (r : CondRow) (w : Culprit) :
    (s.report r w).busy = s.busy := rfl

/-! ### complete -/

@[simp] theorem State.entry_complete (s : State) (c : CommandCode) (r : ResultCode) (ws : List Word) (e' : EntryNo) :
    (s.complete c r ws).entry e' = s.entry e' := rfl

@[simp] theorem State.queue_complete (s : State) (c : CommandCode) (r : ResultCode) (ws : List Word) (k' : Level) :
    (s.complete c r ws).queue k' = s.queue k' := rfl

@[simp] theorem State.stack_complete (s : State) (c : CommandCode) (r : ResultCode) (ws : List Word) (t' : Taker) :
    (s.complete c r ws).stack t' = s.stack t' := rfl

@[simp] theorem State.withdrawnOf_complete (s : State) (c : CommandCode) (r : ResultCode) (ws : List Word) (t' : Taker) :
    (s.complete c r ws).withdrawnOf t' = s.withdrawnOf t' := rfl

@[simp] theorem State.port_complete (s : State) (c : CommandCode) (r : ResultCode) (ws : List Word) (t' : Taker) :
    (s.complete c r ws).port t' = s.port t' := rfl

@[simp] theorem State.string_complete (s : State) (c : CommandCode) (r : ResultCode) (ws : List Word) (n' : StringNo) :
    (s.complete c r ws).string n' = s.string n' := rfl

@[simp] theorem State.cond_complete (s : State) (c : CommandCode) (r : ResultCode) (ws : List Word) (r' : CondRow) :
    (s.complete c r ws).cond r' = s.cond r' := rfl

@[simp] theorem State.clearing_complete (s : State) (c : CommandCode) (r : ResultCode) (ws : List Word) :
    (s.complete c r ws).clearing = false := rfl

@[simp] theorem State.busy_complete (s : State) (c : CommandCode) (r : ResultCode) (ws : List Word) :
    (s.complete c r ws).busy = false := rfl

/-! ### Reading back the piece that was written -/

@[simp] theorem State.entry_setEntry_same (s : State) (e : EntryNo) (o : Option Entry) :
    (s.setEntry e o).entry e = o := by
  simp [State.entry, State.setEntry]

theorem State.entry_setEntry_ne (s : State) (e : EntryNo) (o : Option Entry) (e' : EntryNo) (h : e ≠ e') :
    (s.setEntry e o).entry e' = s.entry e' := by
  have h' : e.val ≠ e'.val := fun e => h (Fin.ext e)
  simp [State.entry, State.setEntry, h']

theorem State.entry_setEntry (s : State) (e : EntryNo) (o : Option Entry) (e' : EntryNo) :
    (s.setEntry e o).entry e' = if e = e' then o else s.entry e' := by
  split
  · subst_vars; simp
  · rename_i h; exact State.entry_setEntry_ne s e o e' h

@[simp] theorem State.stack_setStack_same (s : State) (t : Taker) (l : List EntryNo) :
    (s.setStack t l).stack t = l := by
  simp [State.stack, State.setStack]

theorem State.stack_setStack_ne (s : State) (t : Taker) (l : List EntryNo) (t' : Taker) (h : t ≠ t') :
    (s.setStack t l).stack t' = s.stack t' := by
  have h' : t.val ≠ t'.val := fun e => h (Fin.ext e)
  simp [State.stack, State.setStack, h']

theorem State.stack_setStack (s : State) (t : Taker) (l : List EntryNo) (t' : Taker) :
    (s.setStack t l).stack t' = if t = t' then l else s.stack t' := by
  split
  · subst_vars; simp
  · rename_i h; exact State.stack_setStack_ne s t l t' h

@[simp] theorem State.withdrawnOf_setWithdrawn_same (s : State) (t : Taker) (l : List EntryNo) :
    (s.setWithdrawn t l).withdrawnOf t = l := by
  simp [State.withdrawnOf, State.setWithdrawn]

theorem State.withdrawnOf_setWithdrawn_ne (s : State) (t : Taker) (l : List EntryNo) (t' : Taker) (h : t ≠ t') :
    (s.setWithdrawn t l).withdrawnOf t' = s.withdrawnOf t' := by
  have h' : t.val ≠ t'.val := fun e => h (Fin.ext e)
  simp [State.withdrawnOf, State.setWithdrawn, h']

theorem State.withdrawnOf_setWithdrawn (s : State) (t : Taker) (l : List EntryNo) (t' : Taker) :
    (s.setWithdrawn t l).withdrawnOf t' = if t = t' then l else s.withdrawnOf t' := by
  split
  · subst_vars; simp
  · rename_i h; exact State.withdrawnOf_setWithdrawn_ne s t l t' h

@[simp] theorem State.port_setPort_same (s : State) (t : Taker) (p : TakerPort) :
    (s.setPort t p).port t = p := by
  simp [State.port, State.setPort]

theorem State.port_setPort_ne (s : State) (t : Taker) (p : TakerPort) (t' : Taker) (h : t ≠ t') :
    (s.setPort t p).port t' = s.port t' := by
  have h' : t.val ≠ t'.val := fun e => h (Fin.ext e)
  simp [State.port, State.setPort, h']

theorem State.port_setPort (s : State) (t : Taker) (p : TakerPort) (t' : Taker) :
    (s.setPort t p).port t' = if t = t' then p else s.port t' := by
  split
  · subst_vars; simp
  · rename_i h; exact State.port_setPort_ne s t p t' h

@[simp] theorem State.string_setString_same (s : State) (n : StringNo) (g : StringEngine) :
    (s.setString n g).string n = g := by
  simp [State.string, State.setString]

theorem State.string_setString_ne (s : State) (n : StringNo) (g : StringEngine) (n' : StringNo) (h : n ≠ n') :
    (s.setString n g).string n' = s.string n' := by
  have h' : n.val ≠ n'.val := fun e => h (Fin.ext e)
  simp [State.string, State.setString, h']

theorem State.string_setString (s : State) (n : StringNo) (g : StringEngine) (n' : StringNo) :
    (s.setString n g).string n' = if n = n' then g else s.string n' := by
  split
  · subst_vars; simp
  · rename_i h; exact State.string_setString_ne s n g n' h

/-- Level 0 has no queue (R29): its queue reads empty whatever is written. -/
theorem State.queue_setQueue (s : State) (k : Level) (q : List EntryNo) (k' : Level) :
    (s.setQueue k q).queue k' =
      if k = k' then (if k.val = 0 then [] else q) else s.queue k' := by
  by_cases h0 : k.val = 0
  · have hs : s.setQueue k q = s := by simp [State.setQueue, h0]
    rw [hs]
    split
    · subst_vars; simp [State.queue, h0]
    · rfl
  · by_cases h0' : k'.val = 0
    · have hne : k ≠ k' := fun e => h0 (e ▸ h0')
      simp [State.queue, h0', hne]
    · by_cases hk : k = k'
      · subst hk; simp [State.queue, State.setQueue, h0]
      · have hv : k.val - 1 ≠ k'.val - 1 := fun e => hk (Fin.ext (by omega))
        simp [State.queue, State.setQueue, h0, h0', hk, hv]

theorem State.queue_setQueue_same (s : State) (k : Level) (q : List EntryNo) (h : k.val ≠ 0) :
    (s.setQueue k q).queue k = q := by
  simp [State.queue_setQueue, h]

theorem State.queue_setQueue_ne (s : State) (k : Level) (q : List EntryNo) (k' : Level) (h : k ≠ k') :
    (s.setQueue k q).queue k' = s.queue k' := by
  simp [State.queue_setQueue, h]

theorem CondRow.ix_inj {r r' : CondRow} (h : r.ix = r'.ix) : r = r' := by
  revert h; cases r <;> cases r' <;> decide

@[simp] theorem State.cond_setCond_same (s : State) (r : CondRow) (c : Condition) :
    (s.setCond r c).cond r = c := by
  simp [State.cond, State.setCond]

theorem State.cond_setCond_ne (s : State) (r : CondRow) (c : Condition) (r' : CondRow) (h : r ≠ r') :
    (s.setCond r c).cond r' = s.cond r' := by
  have h' : r.ix.val ≠ r'.ix.val := fun e => h (CondRow.ix_inj (Fin.ext e))
  simp [State.cond, State.setCond, h']

@[simp] theorem State.cond_report_same (s : State) (r : CondRow) (w : Culprit) :
    (s.report r w).cond r = (s.cond r).reported w := State.cond_setCond_same s r _

theorem State.cond_report_ne (s : State) (r : CondRow) (w : Culprit) (r' : CondRow) (h : r ≠ r') :
    (s.report r w).cond r' = s.cond r' := State.cond_setCond_ne s r _ r' h

end Sys2Proof.Machine
end

