-- ==== Sys2Proof/Laws/Operands.lean ====
section
/-! SUPPORT. What the readers of a command record accept and where each field they read stands: cited in
place of unfolding them, whose tests stand under instances that rewriting does not reach. -/

namespace Sys2Proof.Machine

theorem entryNo?_eq_some {v : Nat} {e : EntryNo} : entryNo? v = some e ↔ e.val = v := by
  unfold entryNo?
  split
  · simp only [Option.some.injEq, Fin.ext_iff]
    exact eq_comm
  · rename_i h
    constructor
    · intro h'
      cases h'
    · intro h'
      exact absurd (h' ▸ e.isLt) h

theorem recordEntry_eq_some {s : State} {e : EntryNo} :
    recordEntry s = some e ↔ e.val = ((s.cmd[1]).extractLsb' 0 7).toNat := entryNo?_eq_some

theorem level_field_val (w : Word) : (levelField w).val = (w.extractLsb' 0 4).toNat :=
  Nat.mod_eq_of_lt (w.extractLsb' 0 4).isLt

theorem limit_class_field_val (w : Word) : (limitClassField w).val = (w.extractLsb' 16 3).toNat :=
  Nat.mod_eq_of_lt (w.extractLsb' 16 3).isLt

/-- What `named` gives, seen through a function. -/
theorem named_map {α β : Type} (f : α → β) (b : Bool) (v : α) :
    (named b v).map f = if b then some (f v) else none := by
  cases b <;> rfl

/-- An accepted AMEND record: each field by its bit of the change mask and its place of 10.5. -/
theorem amendRecord_fields {s : State} {f : AmendRecord} (h : amendRecord s = some f) :
    f.entry.val = ((s.cmd[1]).extractLsb' 0 7).toNat ∧
      f.level = named ((s.cmd[2]).getLsbD 0) (levelField s.cmd[3]) ∧
      f.sense = named ((s.cmd[2]).getLsbD 1) (senseOf ((s.cmd[3]).getLsbD 4)) ∧
      f.eligible = named ((s.cmd[2]).getLsbD 2) ((s.cmd[3]).extractLsb' 8 4) ∧
      f.tag = named ((s.cmd[2]).getLsbD 3) ((s.cmd[4]).extractLsb' 0 16) ∧
      f.limitClass = named ((s.cmd[2]).getLsbD 4) (limitClassField s.cmd[3]) ∧
      f.enable = named ((s.cmd[2]).getLsbD 5) ((s.cmd[3]).getLsbD 24) := by
  unfold amendRecord at h
  split at h
  · cases h
  · rename_i e he
    split at h
    · cases h
    · cases h
      exact ⟨recordEntry_eq_some.1 he, rfl, rfl, rfl, rfl, rfl, rfl⟩

/-- The filter word is refused exactly for code 6 or 7, and for a string or slot out of range where the code
uses it (R159). -/
theorem filterField_eq_none {w : Word} :
    filterField w = none ↔
      6 ≤ Bits.get w 0 3 ∨ ((Bits.get w 0 3 = 2 ∨ Bits.get w 0 3 = 3) ∧ 3 ≤ Bits.get w 8 2) ∨
        (Bits.get w 0 3 = 3 ∧ 24 ≤ Bits.get w 16 5) := by
  unfold filterField
  repeat' split
  all_goals simp only [reduceCtorEq, false_iff, true_iff]
  all_goals omega

/-- The filter that an accepted filter word names (R159). -/
theorem filterField_eq_some {w : Word} {f : SourceFilter} (h : filterField w = some f) :
    (f = .any ∧ Bits.get w 0 3 = 0) ∨ (f = .wire ∧ Bits.get w 0 3 = 1) ∨
      (∃ n, f = .wireString n ∧ Bits.get w 0 3 = 2 ∧ n.val = Bits.get w 8 2) ∨
      (∃ n k, f = .wireSlot n k ∧ Bits.get w 0 3 = 3 ∧ n.val = Bits.get w 8 2 ∧
        k.val = Bits.get w 16 5) ∨
      (f = .posted ∧ Bits.get w 0 3 = 4) ∨
      ∃ c, f = .postedChannel c ∧ Bits.get w 0 3 = 5 ∧ c.val = Bits.get w 24 4 := by
  unfold filterField at h
  split at h
  · cases h
    exact .inl ⟨rfl, ‹_›⟩
  split at h
  · cases h
    exact .inr (.inl ⟨rfl, ‹_›⟩)
  split at h
  · split at h
    · cases h
      exact .inr (.inr (.inl ⟨_, rfl, ‹_›, Nat.mod_eq_of_lt ‹_›⟩))
    · cases h
  split at h
  · split at h
    · rename_i hr
      cases h
      exact .inr (.inr (.inr (.inl
        ⟨_, _, rfl, ‹_›, Nat.mod_eq_of_lt hr.1, Nat.mod_eq_of_lt hr.2⟩)))
    · cases h
  split at h
  · cases h
    exact .inr (.inr (.inr (.inr (.inl ⟨rfl, ‹_›⟩))))
  split at h
  · cases h
    exact .inr (.inr (.inr (.inr (.inr
      ⟨_, rfl, ‹_›, Nat.mod_eq_of_lt (w.extractLsb' 24 4).isLt⟩))))
  · cases h

end Sys2Proof.Machine
end

