-- ==== Sys2Proof/Laws/Ops.lean ====
section
/-! SUPPORT. What each shared operation can do, said once: which fields it may change, and its result in
each case. -/

namespace Sys2Proof.Machine

/-! ### Which fields an operation may change -/

/-- Writing a queue changes the queues alone. -/
theorem State.setQueue_frame (s : State) (k : Level) (q : List EntryNo) :
    s.setQueue k q = { s with queues := (s.setQueue k q).queues } := by
  unfold State.setQueue; split <;> rfl

theorem State.pushTail_frame (s : State) (k : Level) (e : EntryNo) :
    s.pushTail k e = { s with queues := (s.pushTail k e).queues } := s.setQueue_frame k _

theorem State.pushHead_frame (s : State) (k : Level) (e : EntryNo) :
    s.pushHead k e = { s with queues := (s.pushHead k e).queues } := s.setQueue_frame k _

theorem State.dropQueue_frame (s : State) (k : Level) (e : EntryNo) :
    s.dropQueue k e = { s with queues := (s.dropQueue k e).queues } := s.setQueue_frame k _

/-- An occurrence changes entries and queues alone (R10). -/
theorem State.occurrence_frame (s : State) (e : EntryNo) :
    s.occurrence e =
      { s with entries := (s.occurrence e).entries, queues := (s.occurrence e).queues } := by
  unfold State.occurrence
  split
  · rfl
  · split
    · rfl
    · split
      · rfl
      · rw [State.pushTail_frame]; rfl
      · rfl
      · rfl
      · rfl

/-- A lapse changes entries and queues alone (R11). -/
theorem State.lapse_frame (s : State) (e : EntryNo) :
    s.lapse e = { s with entries := (s.lapse e).entries, queues := (s.lapse e).queues } := by
  unfold State.lapse
  split
  · rfl
  · split
    · rfl
    · split
      · rw [State.dropQueue_frame]; rfl
      · rfl
      · rfl
      · rfl
      · rfl

/-- A DONE answered OK changes entries, queues and stacks alone (R59). -/
theorem State.finish_frame (s : State) (t : Taker) (e : EntryNo) :
    s.finish t e =
      { s with
        entries := (s.finish t e).entries
        queues := (s.finish t e).queues
        serviceStacks := (s.finish t e).serviceStacks } := by
  simp only [State.finish]
  split
  · rfl
  · split
    · split
      · rfl
      · split
        · rw [State.pushTail_frame]; rfl
        · rfl
    · rfl
    · rfl
    · rfl
    · rfl

/-- A return to waiting changes entries, queues and stacks alone (R17). -/
theorem State.giveBack_frame (s : State) (t : Taker) (e : EntryNo) :
    s.giveBack t e =
      { s with
        entries := (s.giveBack t e).entries
        queues := (s.giveBack t e).queues
        serviceStacks := (s.giveBack t e).serviceStacks } := by
  simp only [State.giveBack]
  split
  · rfl
  · split
    · split
      · rfl
      · rw [State.pushHead_frame]; rfl
    · rfl
    · rfl
    · rfl
    · rfl

/-- A freeing changes entries, queues and stacks alone (R19). -/
theorem State.free_frame (s : State) (e : EntryNo) :
    s.free e =
      { s with
        entries := (s.free e).entries
        queues := (s.free e).queues
        serviceStacks := (s.free e).serviceStacks } := by
  unfold State.free
  split
  · rfl
  · split
    · rfl
    · rfl
    · rw [State.dropQueue_frame]; rfl
    · rfl
    · rfl

/-- Taking an entry changes entries, queues, stacks and withdrawn lists alone (R40). -/
theorem State.take_frame (s : State) (t : Taker) (e : EntryNo) :
    s.take t e =
      { s with
        entries := (s.take t e).entries
        queues := (s.take t e).queues
        serviceStacks := (s.take t e).serviceStacks
        withdrawn := (s.take t e).withdrawn } := by
  unfold State.take
  split
  · rfl
  · rw [State.dropQueue_frame]; rfl

/-- A withdrawal changes entries, queues, stacks, withdrawn lists and condition rows alone (R85). -/
theorem State.withdraw_frame (s : State) (t : Taker) (e : EntryNo) :
    s.withdraw t e =
      { s with
        entries := (s.withdraw t e).entries
        queues := (s.withdraw t e).queues
        serviceStacks := (s.withdraw t e).serviceStacks
        withdrawn := (s.withdraw t e).withdrawn
        conditions := (s.withdraw t e).conditions } := by
  unfold State.withdraw
  rw [State.giveBack_frame]; rfl

/-- A claim passed by the arbiter changes entries, queues, stacks, withdrawn lists, the pointer and the
reading port alone (R40, R44). -/
theorem State.claimOne_frame (s : State) (t : Taker) :
    s.claimOne t =
      { s with
        entries := (s.claimOne t).entries
        queues := (s.claimOne t).queues
        serviceStacks := (s.claimOne t).serviceStacks
        withdrawn := (s.claimOne t).withdrawn
        arbiter := (s.claimOne t).arbiter
        takers := (s.claimOne t).takers } := by
  unfold State.claimOne
  cases s.claimAnswer t with
  | offer e => simp only; rw [State.take_frame]; rfl
  | empty => rfl
  | full => rfl
  | halted => rfl
  | clearing => rfl

/-! ### An occurrence, case by case (R10, R27) -/

theorem State.occurrence_clearing (s : State) (e : EntryNo) (h : s.clearing = true) :
    s.occurrence e = s := by
  simp [State.occurrence, h]

theorem State.occurrence_armed (s : State) (e : EntryNo) (b : Entry) (hc : s.clearing = false)
    (hb : s.entry e = some b) (hp : b.phase = .armed) :
    s.occurrence e =
      (s.setEntry e
        (some { b with phase := .raised, reoffered := false, hits := bumpHits b.hits })).pushTail
        b.level e := by
  simp [State.occurrence, hc, hb, hp]

theorem State.occurrence_raised (s : State) (e : EntryNo) (b : Entry) (hc : s.clearing = false)
    (hb : s.entry e = some b) (hp : b.phase = .raised) :
    s.occurrence e = s.setEntry e (some { b with hits := bumpHits b.hits }) := by
  simp [State.occurrence, hc, hb, hp]

theorem State.occurrence_held (s : State) (e : EntryNo) (b : Entry) (v : Service)
    (hc : s.clearing = false) (hb : s.entry e = some b) (hp : b.phase = .held v) :
    s.occurrence e =
      s.setEntry e
        (some { b with phase := .held { v with again := true }, hits := bumpHits b.hits }) := by
  simp [State.occurrence, hc, hb, hp]

theorem State.occurrence_dormant (s : State) (e : EntryNo) (b : Entry) (hb : s.entry e = some b)
    (hp : b.phase = .dormant) : s.occurrence e = s := by
  simp [State.occurrence, hb, hp]

theorem State.occurrence_retiring (s : State) (e : EntryNo) (b : Entry) (v : Service)
    (hb : s.entry e = some b) (hp : b.phase = .retiring v) : s.occurrence e = s := by
  simp [State.occurrence, hb, hp]

/-- An occurrence for one entry leaves every other entry as it stands. -/
theorem State.occurrence_other (s : State) (e e' : EntryNo) (h : e ≠ e') :
    (s.occurrence e).entry e' = s.entry e' := by
  unfold State.occurrence
  split
  · rfl
  · split
    · rfl
    · split <;> simp [State.pushTail, State.entry_setEntry_ne, h]

/-! ### A lapse, case by case (R11, R27) -/

theorem State.lapse_clearing (s : State) (e : EntryNo) (h : s.clearing = true) : s.lapse e = s := by
  simp [State.lapse, h]

theorem State.lapse_raised (s : State) (e : EntryNo) (b : Entry) (hc : s.clearing = false)
    (hb : s.entry e = some b) (hp : b.phase = .raised) :
    s.lapse e = (s.dropQueue b.level e).setEntry e (some { b with phase := .armed }) := by
  simp [State.lapse, hc, hb, hp]

theorem State.lapse_held (s : State) (e : EntryNo) (b : Entry) (v : Service)
    (hc : s.clearing = false) (hb : s.entry e = some b) (hp : b.phase = .held v) :
    s.lapse e = s.setEntry e (some { b with phase := .held { v with again := false } }) := by
  simp [State.lapse, hc, hb, hp]

/-- A lapse for one entry leaves every other entry as it stands. -/
theorem State.lapse_other (s : State) (e e' : EntryNo) (h : e ≠ e') :
    (s.lapse e).entry e' = s.entry e' := by
  unfold State.lapse
  split
  · rfl
  · split
    · rfl
    · split <;> simp [State.dropQueue, State.entry_setEntry_ne, h]

/-! ### The ends of a service leave every other entry as it stands -/

theorem State.finish_other (s : State) (t : Taker) (e e' : EntryNo) (h : e ≠ e') :
    (s.finish t e).entry e' = s.entry e' := by
  simp only [State.finish]
  split
  · simp [State.dropStack]
  · split
    · split
      · simp [State.dropStack, State.entry_setEntry_ne, h]
      · split <;> simp [State.pushTail, State.dropStack, State.entry_setEntry_ne, h]
    all_goals simp [State.dropStack, State.entry_setEntry_ne, h]

theorem State.giveBack_other (s : State) (t : Taker) (e e' : EntryNo) (h : e ≠ e') :
    (s.giveBack t e).entry e' = s.entry e' := by
  simp only [State.giveBack]
  split
  · simp [State.dropStack]
  · split
    · split <;> simp [State.pushHead, State.dropStack, State.entry_setEntry_ne, h]
    all_goals simp [State.dropStack, State.entry_setEntry_ne, h]

theorem State.free_other (s : State) (e e' : EntryNo) (h : e ≠ e') :
    (s.free e).entry e' = s.entry e' := by
  unfold State.free
  split
  · rfl
  · split <;> simp [State.dropQueue, State.dropStack, State.entry_setEntry_ne, h]

/-- After a freeing the entry is FREE (R19). -/
theorem State.free_entry (s : State) (e : EntryNo) : (s.free e).entry e = none := by
  unfold State.free
  split
  · assumption
  · split <;> simp

theorem State.take_other (s : State) (t : Taker) (e e' : EntryNo) (h : e ≠ e') :
    (s.take t e).entry e' = s.entry e' := by
  unfold State.take
  split
  · rfl
  · simp [State.dropQueue, State.entry_setEntry_ne, h]

/-- Taking a bound entry makes it HELD by the taker, on top of its stack (R14). -/
theorem State.take_entry (s : State) (t : Taker) (e : EntryNo) (b : Entry) (h : s.entry e = some b) :
    (s.take t e).entry e =
      some { b with phase := .held (s.newService t b.limitClass) } := by
  simp [State.take, h]

theorem State.take_stack (s : State) (t : Taker) (e : EntryNo) (b : Entry) (h : s.entry e = some b) :
    (s.take t e).stack t = e :: s.stack t := by
  simp [State.take, h]

/-! ### Accesses and the rows of GO -/

/-- With RESETn released, an access is the write of its word. -/
theorem State.access_run (s : State) (f : State → State) (h : s.inReset = false) :
    s.access f = f s := by
  simp [State.access, h]

/-- While RESETn is asserted, a write is ignored (R172). -/
theorem State.access_ignored (s : State) (f : State → State) (h : s.inReset = true) :
    s.access f = s := by
  simp [State.access, h]

/-- A write to GO that is the row its sender calls it has that row's effect. -/
theorem State.goAs_run (s : State) (r : GoRow) (run : State → State) (hr : s.inReset = false)
    (h : s.goRow = r) : s.goAs r run = run s := by
  simp [State.goAs, State.access, hr, h]

/-- While the slot is BUSY every write to GO is GO_WHILE_BUSY (R148). -/
theorem State.goRow_busy (s : State) (h : s.busy = true) : s.goRow = .whileBusy := by
  simp [State.goRow, h]

/-- While the slot is IDLE the command record names the row (R146). -/
theorem State.goRow_idle (s : State) (h : s.busy = false) : s.goRow = recordRow s := by
  simp [State.goRow, h]

/-! ### Samples -/

/-- Bit i of the vector made from f is f i, and it has no bit beyond its length. -/
theorem getLsbD_bitsOf (n : Nat) (f : Nat → Bool) (i : Nat) :
    (bitsOf n f).getLsbD i = (decide (i < n) && f i) := by
  induction n with
  | zero => simp [bitsOf]
  | succ n ih =>
    rw [bitsOf, BitVec.getLsbD_cons, ih]
    by_cases h : i = n
    · subst h; simp
    · by_cases h' : i < n
      · simp [h, h', Nat.lt_succ_of_lt h']
      · have : ¬ i < n + 1 := by omega
        simp [h, h', this]

/-! ### The step -/

/-- With a command at the front, the step is exec of it with the queue's rest. -/
theorem step_cons (s : State) (c : Instr) (rest : List Instr) (h : s.pending = c :: rest) :
    step s = exec c { s with pending := rest } := by
  simp [step, h]

/-- On an empty queue the step is one REFCLK period (log 2). -/
theorem step_nil (s : State) (h : s.pending = []) : step s = .next s.refclk := by
  simp [step, h]

/-- The bits of each CMD word that the layouts assign. -/
theorem cmdLayout_bits (k : Fin 8) :
    fieldsBits cmdLayout[k] =
      #v[0x0000000F#32, 0x0000FFFF#32, 0xFFFFFFFF#32, 0x0107FFFF#32, 0x0F1FFFFF#32, 0#32, 0#32,
        0#32][k] := by
  revert k
  decide

/-- A read of a CMD word returns the stored word in those bits and 0 in the others. -/
theorem cmdWord_eq (s : State) (k : Fin 8) :
    s.cmdWord k =
      s.cmd[k] &&&
        #v[0x0000000F#32, 0x0000FFFF#32, 0xFFFFFFFF#32, 0x0107FFFF#32, 0x0F1FFFFF#32, 0#32, 0#32,
          0#32][k] := by
  unfold State.cmdWord
  rw [cmdLayout_bits]

end Sys2Proof.Machine
end

