-- ==== Sys2Proof/Tests/Slice0.lean ====
section
/-! SUPPORT. The author's own tests: the well-formedness smoke, one step of each command on a small state
with the words that spec/10 gives, and a state that meets the hypotheses of each obligation. -/

namespace Sys2Proof.Tests

-- One thread at a time: the evaluations below would otherwise pile up as waiting threads.
set_option Elab.async false

open Sys2Proof.Machine Sys2Proof.Claims

/-! ### Small states -/

/-- The next state of a command; the state itself where it stops. -/
def after (i : Instr) (s : State) : State :=
  match exec i s with
  | .next t => t
  | .fault _ => s
  | .refused _ => s

/-- Every taker ENABLED and every mask full. -/
def ready : State :=
  { State.reset with
    takers := Vector.replicate 4 { TakerPort.reset with enabled := true }
    masks := Vector.replicate 16 15#4 }

/-- A source of string 0, slot 3: level 5, tag 1234H, limit class 1, ARMED. -/
def source : Entry :=
  { key := .wire 0 3 none, level := 5, sense := .edge, eligible := 15#4, tag := 0x1234#16
    limitClass := 1, reoffered := false, hits := 0#16, phase := .armed }

/-- A posted source of channel 2. -/
def posted : Entry := { source with key := .posted 2 }

/-- A marked source of string 0, slot 3, mark 2. -/
def marked : Entry := { source with key := .wire 0 3 (some 2) }

/-- A service of taker 1 with nothing set and a running limit of class 1. -/
def service : Service :=
  { holder := 1, expiries := 0, overdue := false, stagedLevel := none, stagedDormancy := false
    again := false, limit := some { row := 0, remaining := 2#16, expired := false } }

def armedState : State := ready.setEntry 7 (some source)

def postedState : State := ready.setEntry 7 (some posted)

def raisedState : State := (ready.setEntry 7 (some { source with phase := .raised })).setQueue 5 [7]

/-- Entry 7 is HELD by taker 1, alone on its stack, with this service. -/
def heldWith (v : Service) : State :=
  (ready.setEntry 7 (some { source with phase := .held v })).setStack 1 [7]

def heldState : State := heldWith service

def retiringState : State :=
  (ready.setEntry 7 (some { source with phase := .retiring service })).setStack 1 [7]

/-- Taker 1 serves entry 9 above entry 7. -/
def nestedState : State :=
  (heldState.setEntry 9
    (some { source with key := .wire 0 4 none, level := 9, phase := .held service })).setStack 1 [9, 7]

/-- The same state with an expiry of entry 7 that waits, under a policy. -/
def expiring (expiries : Fin 2) (policy : Policy) : State :=
  { heldWith { service with
      expiries := expiries, overdue := expiries == 1
      limit := some { row := 0, remaining := 1#16, expired := true } } with
    limits := Vector.replicate 7 { duration := 9#16, policy := policy } }

/-- A command record in the command area. -/
def record (s : State) (c : List Word) : State :=
  { s with cmd := Vector.ofFn fun i => c.getD i.val 0#32 }

/-- String 0 RUNNING with a cycle in flight, or in a gap. -/
def running (s : State) (c : Option Cycle) : State :=
  s.setString 0 { StringEngine.reset with state := .running, cycle := c }

/-- String 0 in a state with its clock stopped. -/
def stopped (st : StringState) : State :=
  ready.setString 0 { StringEngine.reset with state := st }

def clearingState : State := { armedState with slot := .resetDirectory 1 }

/-- A SWEEP of every state, level and source, at entry e with a page. -/
def sweeping (s : State) (e : EntryNo) (page : List EntryNo) : State :=
  { s with
    slot := .sweep
      { states := 63#6, low := 1, high := 15, filter := .any, next := e, page := page } }

/-! ### Well-formedness -/

theorem test_wf_claim_of_no_taker_is_refused : (Instr.claim 0#4).wellFormed = false := by decide

theorem test_wf_claim_of_a_taker : (Instr.claim 4#4).wellFormed = true := by decide

/-- CMD0 stands at word address 64 and takes writes; MSTAT at 73 takes none. -/
theorem test_wf_ignored_write_needs_a_word_that_takes_none :
    (Instr.ignoredWrite 64#7 0#32).wellFormed = false ∧
      (Instr.ignoredWrite 73#7 0#32).wellFormed = true := by decide

theorem test_table_word_spells_no_command (nbits w : Nat) : decodeTableWord nbits w = none := rfl

theorem test_with_fetch_word_changes_nothing (s : State) (nbits w : Nat) :
    s.withFetchWord nbits w = s := rfl

/-! ### The address map (10.1) -/

theorem test_address_map :
    wordAt 0#7 = .taker 0 .claim ∧ wordAt 17#7 = .taker 1 .peek ∧ wordAt 56#7 = .taker 3 .answer ∧
      wordAt 57#7 = .taker 3 .unused ∧ wordAt 71#7 = .cmd 7 ∧ wordAt 72#7 = .go ∧
      wordAt 73#7 = .mstat ∧ wordAt 74#7 = .summary ∧ wordAt 75#7 = .mctl ∧
      wordAt 76#7 = .mgmtUnused ∧ wordAt 80#7 = .res 0 ∧ wordAt 95#7 = .res 15 ∧
      wordAt 96#7 = .unmapped := by decide

/-! ### Taker windows -/

/-- OFFER of entry 7, level 5, tag 1234H: 80751234H. -/
theorem test_claim_takes_the_offer :
    ((after (.claim 2#4) raisedState).port 1).readData = some 0x80751234#32 ∧
      (after (.claim 2#4) raisedState).stack 1 = [7] ∧
      (after (.claim 2#4) raisedState).queue 5 = [] := by decide

/-- After reset the claims of takers 0 and 1 are passed beginning with taker 0. -/
theorem test_claims_together :
    (after (.claim 3#4) raisedState).stack 0 = [7] ∧
      ((after (.claim 3#4) raisedState).port 1).readData = some 0#32 ∧
      (after (.claim 3#4) raisedState).arbiter = 1 := by decide

theorem test_peek_shows_the_offer :
    ((after (.peek 1) raisedState).port 1).readData = some 0x80751234#32 ∧
      (after (.peek 1) raisedState).queue 5 = [7] := by decide

theorem test_done_arms_the_entry :
    (after (.done 1 7#32) heldState).entry 7 = some source ∧
      ((after (.done 1 7#32) heldState).port 1).answer = .ok := by decide

/-- A number in the withdrawn list is answered LATE and leaves it. -/
theorem test_late_done :
    ((after (.done 1 7#32) (raisedState.setWithdrawn 1 [3, 7])).port 1).answer = .late ∧
      (after (.done 1 7#32) (raisedState.setWithdrawn 1 [3, 7])).withdrawnOf 1 = [3] := by decide

theorem test_yield_returns_the_entry_to_the_head :
    (after (.yield 1 7#32) (heldState.setQueue 5 [40])).queue 5 = [7, 40] ∧
      (after (.yield 1 7#32) heldState).entry 7 =
        some { source with phase := .raised, reoffered := true } := by decide

theorem test_floor_range :
    ((after (.floor 2 15#32) ready).port 2).floor = 15 ∧
      ((after (.floor 2 16#32) ready).port 2).answer = .range := by decide

theorem test_post_raises_its_entry :
    (after (.post 3 2#32) postedState).queue 5 = [7] ∧
      ((after (.post 3 2#32) { postedState with masks := Vector.replicate 16 7#4 }).port 3).answer =
        .denied := by decide

theorem test_treset_returns_the_stack :
    (after (.treset 1 9#32) nestedState).stack 1 = [] ∧
      (after (.treset 1 9#32) nestedState).queue 9 = [9] ∧
      (after (.treset 1 9#32) nestedState).queue 5 = [7] := by decide

theorem test_ignored_write : after (.ignoredWrite 80#7 5#32) ready = ready := by decide

/-! ### Management window -/

theorem test_cmd_write : (after (.cmdWrite 3 5#32) ready).cmd[3] = 5#32 := by decide

/-- Before any command MSTAT reads 0; with the done flag set it reads 2, and the flag is cleared. -/
theorem test_mstat_read :
    (after .mstatRead { ready with doneFlag := true }).mstatData = some 2#32 ∧
      (after .mstatRead { ready with doneFlag := true }).doneFlag = false := by decide

theorem test_mctl_write : (after (.mctlWrite 3#32) ready).doneEnable = true := by decide

theorem test_undefined_command :
    (after (.undefinedCommand 0#32) (record ready [14#32])).res[0] = 0xA0E#32 := by decide

/-- BIND AUTO of string 1, slot 4, mark 2, level 5, takers 0 and 1, class 1, ARMED, tag 77. -/
theorem test_bind :
    (after (.bind 0#32) (record ready [1#32, 0x80#32, 0xA0410#32, 0x01010305#32, 77#32])).entry 0 =
        some
          { key := .wire 1 4 (some 2), level := 5, sense := .edge, eligible := 3#4, tag := 77#16
            limitClass := 1, reoffered := false, hits := 0#16, phase := .armed } ∧
      (after (.bind 0#32)
        (record ready [1#32, 0x80#32, 0xA0410#32, 0x01010305#32, 77#32])).res[1] =
        0x80000000#32 := by decide

/-- A new unmarked entry of string 0, slot 3 clashes with entry 7: KEYCLASH. -/
theorem test_bind_key_clash :
    (after (.bind 0#32) (record armedState [1#32, 0x80#32, 0x300#32, 0x00000101#32])).res[0] =
        0x601#32 ∧
      (after (.bind 0#32) (record armedState [1#32, 0x80#32, 0x300#32, 0x00000101#32])).res[1] =
        0x80000007#32 := by decide

/-- AMEND of the level of a RAISED entry moves it to the tail of its new queue. -/
theorem test_amend_moves_a_raised_entry :
    (after (.amend 0#32) (record (raisedState.setQueue 8 [2]) [2#32, 7#32, 1#32, 8#32])).queue 8 =
        [2, 7] ∧
      (after (.amend 0#32) (record (raisedState.setQueue 8 [2]) [2#32, 7#32, 1#32, 8#32])).queue 5 =
        [] := by decide

/-- AMEND of the level of a HELD entry is STAGED. -/
theorem test_amend_stages :
    (after (.amend 0#32) (record heldState [2#32, 7#32, 1#32, 8#32])).res[0] = 0x102#32 := by decide

theorem test_retire_of_held_entry :
    (after (.retire 0#32) (record heldState [3#32, 7#32])).res[0] = 0x303#32 ∧
      (after (.retire 0#32) (record heldState [3#32, 7#32])).res[1] = 0x9507#32 := by decide

/-- LOOKUP of entry 7, HELD by taker 1 with remaining 2. -/
theorem test_lookup :
    (List.range 6).map
        (fun i => (after (.lookup 0#32) (record heldState [4#32, 7#32])).res.toList.getD i 0#32) =
      [4#32, 0x407#32, 0x300#32, 0x10F05#32, 0x1234#32, 0x510002#32] := by decide

theorem test_find :
    (after (.find 0#32) (record armedState [5#32, 0#32, 0x300#32])).res[1] = 0x207#32 := by decide

theorem test_sweep_starts :
    (after (.sweep 0#32) (record ready [6#32, 5#32, 63#32, 0xF01#32])).slot =
      (sweeping ready 5 []).slot := by decide

/-- The examination of entry 95 ends the SWEEP: the page holds 94 and 95, and the next cursor is END. -/
theorem test_sweep_examination :
    (after .sweepExamination (sweeping ready 95 [94])).res[1] = 0x8002#32 ∧
      (after .sweepExamination (sweeping ready 95 [94])).res[3] = 95#32 := by decide

theorem test_management_post :
    (after (.postCommand 0#32) (record postedState [7#32, 2#32])).queue 5 = [7] ∧
      (after (.postCommand 0#32) (record postedState [7#32, 3#32])).res[0] = 0x807#32 := by decide

theorem test_permit :
    (after (.permit 0#32) (record State.reset [8#32, 0x109#32, 6#32])).masks[9] = 6#4 ∧
      (after (.permit 0#32) (record State.reset [8#32, 0x109#32, 6#32])).res[2] = 0x60#32 := by
  decide

theorem test_taker_enable :
    ((after (.takerEnable 0#32) (record State.reset [9#32, 0x102#32])).port 2).enabled = true := by
  decide

theorem test_taker_halt :
    (after (.takerHalt 0#32) (record nestedState [9#32, 0x201#32])).res[1] = 0#32 ∧
      ((after (.takerHalt 0#32) (record nestedState [9#32, 0x201#32])).port 1).enabled = false := by
  decide

/-- The view of taker 1: stack 7, 9 bottom first, empty list. -/
theorem test_taker_none :
    (after (.takerNone 0#32) (record nestedState [9#32, 1#32])).res[2] = 0x4FFFC487#32 ∧
      (after (.takerNone 0#32) (record nestedState [9#32, 1#32])).res[3] = 0x0FFFFFFF#32 := by decide

theorem test_taker_bad_action :
    (after (.takerBadAction 0#32) (record ready [9#32, 0x301#32])).res[0] = 0xA09#32 := by decide

theorem test_start :
    ((after (.start 0#32) (record ready [10#32, 0#32])).string 0).state = .running := by decide

theorem test_stop_waits_for_the_cycle :
    ((after (.stop 0#32) (record (running ready (some .scan)) [10#32, 0x10#32])).string 0).stopPending =
      true := by decide

theorem test_mode :
    ((after (.mode 0#32) (record ready [10#32, 0x21#32, 1#32])).string 1).mode = .onDemand := by decide

theorem test_divisor :
    ((after (.divisor 0#32) (record ready [10#32, 0x32#32, 1023#32])).string 2).divisor = 1023#10 ∧
      (after (.divisor 0#32) (record ready [10#32, 0x32#32, 1024#32])).resultCode = .badField := by
  decide

/-- The view of string 0: OFF, CONTINUOUS, D 64. -/
theorem test_string_bad_action :
    (List.range 4).map
        (fun i =>
          (after (.stringBadAction 0#32) (record ready [10#32, 0x40#32])).res.toList.getD i 1#32) =
      [0xA0A#32, 0#32, 64#32, 0#32] := by decide

theorem test_limit :
    (after (.limit 0#32) (record ready [11#32, 0x103#32, 0x1012C#32])).limits[2] =
        { duration := 300#16, policy := .reclaim } ∧
      (after (.limit 0#32) (record ready [11#32, 0x200#32, 0#32, 15#32])).resultCode = .badField := by
  decide

/-- A read and acknowledge of COLLISION, row 8. -/
theorem test_condition :
    (after (.condition 0#32) (record (ready.report .collision (.command 6#4))
        [12#32, 0x100#32, 0x100#32])).res[10] = 0xCE010006#32 ∧
      ((after (.condition 0#32) (record (ready.report .collision (.command 6#4))
        [12#32, 0x100#32, 0x100#32])).cond .collision).latched = false := by decide

theorem test_reset_directory :
    (after (.resetDirectory 0#32) (record armedState [13#32])).slot = .resetDirectory 1 := by
  decide +kernel

theorem test_clearing_frees : (after .clearingFree clearingState).entry 7 = none := by decide +kernel

theorem test_reset_directory_completion :
    (after .resetDirectoryCompletion { ready with slot := .resetDirectory 1 }).res[1] = 1#32 := by
  decide +kernel

theorem test_go_while_busy :
    ((after (.goWhileBusy 0#32) clearingState).cond .collision).culprit = some (.command 13#4) := by
  decide

/-! ### Strings, limits and resets -/

/-- Slot 3, queued, names no marked entry: it is dropped, and the next cycle is a scan. -/
theorem test_next_cycle_drops_a_slot :
    ((after (.nextCycleChoice 0)
        (ready.setString 0
          { StringEngine.reset with state := .running, rollCalls := [3] })).string 0).cycle =
      some .scan := by decide +kernel

/-- Slot 3 active in a good scan: bit times 0 to 2, 11 and 53 low. -/
theorem test_scan_raises_an_edge_entry :
    (after (.scanEnd 0 0x20000000000807#54) (running armedState (some .scan))).queue 5 = [7] := by
  decide +kernel

/-- A low CODE bit faults the scan. -/
theorem test_scan_fault :
    ((after (.scanEnd 0 0x2000000000080F#54) (running armedState (some .scan))).string 0).faults =
      1 := by decide +kernel

/-- Mark 2 answers a roll call of slot 3, bit time 14. -/
theorem test_roll_call_raises_a_marked_entry :
    (after (.rollCallEnd 0 0x4004000#27)
        (running (ready.setEntry 7 (some marked)) (some (.rollCall 3)))).queue 5 = [7] := by
  decide +kernel

theorem test_wake_hold :
    ((after (.wakeHold 0) (stopped .resting)).string 0).state = .running := by decide

theorem test_tick :
    (after .tick heldState).entry 7 =
      some
        { source with
          phase := .held { service with
            limit := some { row := 0, remaining := 1#16, expired := false } } } := by
  decide +kernel

theorem test_first_expiry_reloads :
    (after (.firstExpiry 7) (expiring 0 .reclaim)).entry 7 =
      some
        { source with
          phase := .held { service with
            expiries := 1, overdue := true
            limit := some { row := 0, remaining := 9#16, expired := false } } } := by decide

theorem test_second_expiry_withdraws :
    (after (.secondExpiry 7) (expiring 1 .reclaim)).queue 5 = [7] ∧
      (after (.secondExpiry 7) (expiring 1 .reclaim)).withdrawnOf 1 = [7] ∧
      (after (.secondExpiry 7) (expiring 1 .reclaim)).stack 1 = [] := by decide

theorem test_power_on_and_release :
    after (.resetnRelease 16) (after .powerOn nestedState) = State.reset := by rfl

theorem test_resetn_assert : (after .resetnAssert nestedState).inReset = true := by rfl

/-! ### States that meet the hypotheses of the obligations, one theorem for each that has any -/

/-- Every entry bound. -/
def fullState : State := { ready with entries := Vector.replicate 96 (some source) }

/-- A service with these three staged and again fields. -/
def staged (level : Option Level) (dormancy again : Bool) : Service :=
  { service with stagedLevel := level, stagedDormancy := dormancy, again := again }

theorem keysDistinct_of_one_entry (s : State) (x : EntryNo)
    (h : ∀ e : EntryNo, e ≠ x → s.entry e = none) : Safety.KeysDistinct s := by
  intro e e' b b' hb hb' hne
  by_cases he : e = x
  · have he' : e' ≠ x := fun h' => hne (he.trans h'.symm)
    rw [h e' he'] at hb'; cases hb'
  · rw [h e he] at hb; cases hb

theorem entriesOk_of_one_entry (s : State) (x : EntryNo) (y : Entry)
    (h : ∀ e : EntryNo, e ≠ x → s.entry e = none) (hx : s.entry x = some y)
    (hy : Safety.EntryOk y) : Safety.EntriesOk s := by
  intro e b hb
  by_cases he : e = x
  · subst he; rw [hx] at hb; cases hb; exact hy
  · rw [h e he] at hb; cases hb

theorem test_source_is_ok : Safety.EntryOk source :=
  ⟨by decide, by decide, by decide, (by intro v h; cases h), (by intro v h; cases h)⟩

theorem test_marked_is_ok : Safety.EntryOk marked :=
  ⟨by decide, by decide, by decide, (by intro v h; cases h), (by intro v h; cases h)⟩

theorem test_held_source_is_ok : Safety.EntryOk { source with phase := .held service } := by
  refine ⟨by decide, by decide, by decide, ?_, (by intro v h; cases h)⟩
  intro v h
  cases h
  refine ⟨by decide, by decide, ?_⟩
  intro l h
  cases h
  exact ⟨by decide, by decide⟩

theorem test_engine_reset_is_ok : Safety.EngineOk StringEngine.reset where
  divisor := by decide
  queueNodup := by decide
  stoppedClock := by decide
  pendingInCycle := by decide
  scanQueue := by decide
  rollCallQueue := by decide
  runningFaults := by decide
  offClear := by decide
  restingQuiet := by decide
  faultedCount := by decide

theorem test_strings_of_held_state_are_ok : Safety.StringsOk heldState := by
  intro n
  have h : ∀ n : StringNo, heldState.string n = StringEngine.reset := by decide
  rw [h n]
  exact test_engine_reset_is_ok

theorem test_conditions_of_held_state_are_ok : Safety.ConditionsOk heldState := by
  intro k
  have h : ∀ k : Fin 9, heldState.conditions[k] = Condition.reset := by decide
  rw [h k]
  exact ⟨by decide, by decide⟩

theorem test_only_entry_7 : ∀ e : EntryNo, e ≠ 7 → heldState.entry e = none := by decide +kernel

/-- A state that is not the reset state, with an entry in service, meets the whole invariant. -/
theorem test_held_state_is_sound : Safety.Sound heldState where
  queues := by unfold Safety.QueuesMatch; decide +kernel
  serviceStacks := by unfold Safety.StacksMatch; decide +kernel
  ordered := by unfold Safety.StacksOrdered; decide +kernel
  withdrawn := by unfold Safety.WithdrawnOk; decide +kernel
  keys := keysDistinct_of_one_entry heldState 7 test_only_entry_7
  entries := entriesOk_of_one_entry heldState 7 _ test_only_entry_7 rfl test_held_source_is_ok
  limitUnit := by unfold Safety.LimitUnitOk; decide +kernel
  strings := test_strings_of_held_state_are_ok
  conditions := test_conditions_of_held_state_are_ok
  slot := by intro r h; cases h
  inReset := by intro h; cases h

theorem test_meets_EmptyQueueStepIsOneRefclkPeriod :
    ready.pending = [] ∧ State.reset.held.inReset = true ∧ ready.inReset = false ∧
      ({ ready with prescaleCount := 318 } : State).prescaleCount + 1 < ready.prescaler.toNat ∧
      ready.prescaler.toNat ≤ ({ ready with prescaleCount := 319 } : State).prescaleCount + 1 := by
  decide

theorem test_meets_EveryCommandCompletesButTooShortReset :
    ∀ held, Instr.resetnRelease 16 = .resetnRelease held → State.reset.held.inReset = true →
      16 ≤ held := by
  intro held h _
  cases h
  decide

theorem test_meets_ResetTakesEveryBlockToItsResetValues :
    State.reset.held.inReset = true ∧ (16 ≤ 16) ∧ 15 < 16 := by decide

theorem test_meets_IgnoredWritesAndAccessesInReset :
    (Instr.ignoredWrite 127#7 1#32).wellFormed = true ∧ State.reset.held.inReset = true ∧
      (isGoWrite (.bind 0#32) || isWindowWrite (.bind 0#32)) = true ∧
      (isGoWrite (.floor 0 0#32) || isWindowWrite (.floor 0 0#32)) = true := by decide

theorem test_raised_entry_is_the_offer : FirstEligible raisedState 1 7 :=
  ⟨5, [], [], by decide, by decide, by decide, by decide, by decide⟩

/-- At the highest level and behind an entry the taker may not serve. -/
def behindState : State :=
  ((ready.setEntry 7 (some { source with level := 15, phase := .raised })).setEntry 8
    (some { source with level := 15, eligible := 1#4, phase := .raised })).setQueue 15 [8, 7]

theorem test_entry_behind_another_is_the_offer : FirstEligible behindState 1 7 :=
  ⟨15, [8], [], by decide, by decide, by decide, by decide, by decide⟩

theorem test_no_entry_is_eligible : NoEligible ready 1 := by unfold NoEligible; decide

theorem test_meets_ClaimAndPeekAnswerByFirstCase :
    raisedState.inReset = false ∧ clearingState.clearing = true ∧
      (State.reset.clearing = false ∧ (State.reset.port 1).enabled = false) ∧
      4 ≤ ((ready.setStack 1 [1, 2, 3, 4]).stack 1).length ∧
      ((raisedState.port 1).enabled = true ∧ (raisedState.stack 1).length < 4 ∧
        FirstEligible raisedState 1 7) ∧
      ((ready.port 1).enabled = true ∧ (ready.stack 1).length < 4 ∧ NoEligible ready 1) :=
  ⟨by decide, by decide, by decide, by decide,
    ⟨by decide, by decide, test_raised_entry_is_the_offer⟩,
    ⟨by decide, by decide, test_no_entry_is_eligible⟩⟩

theorem test_meets_TakerAlertIsAsserted_IffPeekWouldOffer :
    raisedState.inReset = false ∧ exec .powerOn raisedState = .next raisedState.held :=
  ⟨rfl, rfl⟩

theorem test_meets_ClaimTakesTheOfferedEntry :
    raisedState.inReset = false ∧ raisedState.clearing = false ∧
      (raisedState.port 1).enabled = true ∧ (raisedState.stack 1).length < 4 ∧
      FirstEligible raisedState 1 7 ∧
      raisedState.entry 7 = some { source with phase := .raised } ∧
      source.limitClass.val = (0 : Fin 7).val + 1 ∧
      ({ source with limitClass := 0 } : Entry).limitClass.val = 0 :=
  ⟨by decide, by decide, by decide, by decide, test_raised_entry_is_the_offer, by decide, by decide,
    by decide⟩

theorem test_meets_PeekAndRefusedClaimMoveNothing :
    ready.inReset = false ∧ clearingState.clearing = true ∧ (State.reset.port 1).enabled = false ∧
      4 ≤ ((ready.setStack 1 [1, 2, 3, 4]).stack 1).length ∧ NoEligible ready 1 :=
  ⟨by decide, by decide, by decide, by decide, test_no_entry_is_eligible⟩

/-- With the pointer at taker 1, the claims of takers 0 and 2 are passed 2 first and 0 last. -/
theorem test_claims_begin_after_the_pointer :
    (after (.claim 5#4) { raisedState with arbiter := 1 }).stack 2 = [7] ∧
      (after (.claim 5#4) { raisedState with arbiter := 1 }).arbiter = 0 := by decide

theorem test_meets_ClaimsTogetherPassRoundRobin :
    raisedState.inReset = false ∧ FirstPassed raisedState.arbiter 9#4 0 ∧
      FirstPassed 1 5#4 2 ∧ FirstPassed 1 3#4 0 ∧ FirstPassed 1 2#4 1 := by
  unfold FirstPassed; decide

theorem test_meets_ArbiterPointerFollowsClaimsAlone :
    (State.reset.held.inReset = true ∧ exec (.claim 9#4) State.reset.held =
      .next (after (.claim 9#4) State.reset.held)) ∧
      (State.reset.inReset = false ∧ State.reset.arbiter = 3 ∧ (9#4).getLsbD 0 = true) ∧
      (LastPassed raisedState.arbiter 9#4 3 ∧ LastPassed 1 5#4 0 ∧ LastPassed 1 2#4 1) ∧
      (∀ group, Instr.peek 1 ≠ .claim group) ∧
      exec (.peek 1) ready = .next (after (.peek 1) ready) :=
  ⟨⟨rfl, rfl⟩, by decide, by unfold LastPassed; decide, (by intro g h; cases h), rfl⟩

theorem test_meets_DoneAndYieldAnswerByFirstCase :
    heldState.inReset = false ∧ 95 < low8 96#32 ∧ low8 0xFFFFFF5F#32 = (95 : EntryNo).val ∧
      clearingState.clearing = true ∧ (nestedState.stack 1).head? = some 9 ∧
      ((nestedState.stack 1).head? ≠ some 7 ∧ 7 ∈ nestedState.stack 1) ∧
      (7 ∉ (ready.setWithdrawn 1 [7]).stack 1 ∧ 7 ∈ (ready.setWithdrawn 1 [7]).withdrawnOf 1) ∧
      (95 ∉ nestedState.stack 1 ∧ 95 ∉ nestedState.withdrawnOf 1) := by decide

theorem test_meets_LateDoneRemovesTheNumber :
    (ready.setWithdrawn 1 [7]).inReset = false ∧ (ready.setWithdrawn 1 [7]).clearing = false ∧
      low8 7#32 = (7 : EntryNo).val ∧ 7 ∉ (ready.setWithdrawn 1 [7]).stack 1 ∧
      7 ∈ (ready.setWithdrawn 1 [7]).withdrawnOf 1 := by decide

theorem test_meets_MisplacedDoneOrYieldOnlyReports :
    nestedState.inReset = false ∧ low8 7#32 = (7 : EntryNo).val ∧
      (nestedState.stack 1).head? ≠ some 7 ∧ 7 ∈ nestedState.stack 1 ∧
      clearingState.clearing = true ∧ (ready.stack 1).head? ≠ some 7 ∧
      7 ∉ ready.withdrawnOf 1 := by decide

theorem test_meets_DoneEndsTheTopService :
    (heldState.inReset = false ∧ heldState.clearing = false ∧ low8 7#32 = (7 : EntryNo).val ∧
      heldState.stack 1 = 7 :: [] ∧
      heldState.entry 7 = some { source with phase := .held service }) ∧
    (retiringState.stack 1 = 7 :: [] ∧
      retiringState.entry 7 = some { source with phase := .retiring service }) ∧
    (nestedState.stack 1 = 9 :: [7] ∧ (nestedState.entry 9).isSome = true) ∧
    ((heldWith (staged (some 15) true false)).stack 1 = 7 :: [] ∧
      (heldWith (staged (some 15) true false)).entry 7 =
        some { source with phase := .held (staged (some 15) true false) } ∧
      (15 : Level) = (staged (some 15) true false).stagedLevel.getD 5 ∧ (15 : Level) ≠ 0) ∧
    ((heldWith (staged (some 1) false true)).entry 7 =
        some { source with phase := .held (staged (some 1) false true) } ∧
      (staged (some 1) false true).stagedDormancy = false ∧
      (staged (some 1) false true).again = true) ∧
    (service.stagedDormancy = false ∧ service.again = false) := by decide

theorem test_meets_YieldReturnsTheTopEntry :
    (heldState.inReset = false ∧ heldState.clearing = false ∧ low8 7#32 = (7 : EntryNo).val ∧
      heldState.stack 1 = 7 :: [] ∧
      heldState.entry 7 = some { source with phase := .held service }) ∧
    (retiringState.stack 1 = 7 :: [] ∧
      retiringState.entry 7 = some { source with phase := .retiring service }) ∧
    ((heldWith (staged none true true)).stack 1 = 7 :: [] ∧
      (staged none true true).stagedDormancy = true) ∧
    service.stagedDormancy = false := by decide

theorem test_meets_FloorChangesByItsOwnWrites :
    ready.inReset = false ∧ low8 15#32 = (15 : Level).val ∧ 15 < low8 16#32 ∧
      exec (.treset 1 0#32) heldState = .next (after (.treset 1 0#32) heldState) ∧
      exec .powerOn ready = .next ready.held ∧ (Instr.done 1 7#32).wellFormed = true ∧
      exec (.done 1 7#32) heldState = .next (after (.done 1 7#32) heldState) :=
  ⟨by decide, by decide, by decide, rfl, rfl, by decide, rfl⟩

theorem test_meets_PostIsDecidedByMaskThenBinding :
    postedState.inReset = false ∧ 15 < low8 16#32 ∧ low8 2#32 = (2 : Channel).val ∧
      low8 15#32 = (15 : Channel).val ∧ (State.reset.masks[(2 : Channel)]).getLsbD 1 = false ∧
      (postedState.masks[(2 : Channel)]).getLsbD 1 = true ∧
      (∀ e, armedState.hasKey (.posted 2) e = false) ∧
      (∀ e', postedState.hasKey (.posted 2) e' = true ↔ e' = 7) := by decide +kernel

theorem test_meets_OccurrenceAndLapseActByState :
    armedState.entry 7 = some source ∧ source.level ≠ 0 ∧ armedState.clearing = false ∧
      clearingState.entry 7 = some source ∧ clearingState.clearing = true ∧
      raisedState.entry 7 = some { source with phase := .raised } ∧
      heldState.entry 7 = some { source with phase := .held service } := by decide

theorem test_meets_TresetReturnsTheWholeStack :
    nestedState.inReset = false ∧ nestedState.clearing = false ∧ (nestedState.stack 1).Nodup ∧
      (7 ∈ nestedState.stack 1 ∧
        nestedState.entry 7 = some { source with phase := .held service }) ∧
      (7 ∈ retiringState.stack 1 ∧
        retiringState.entry 7 = some { source with phase := .retiring service }) ∧
      clearingState.clearing = true := by decide

theorem test_meets_WritesWhileBusyCollide :
    clearingState.inReset = false ∧ clearingState.busy = true ∧
      clearingState.slot = .resetDirectory 1 ∧ (sweeping ready 0 []).busy = true ∧
      isGoWrite (.start 0#32) = true ∧ ready.slot = .idle := by decide

theorem test_meets_MstatReadAndMctlWrite :
    ready.inReset = false ∧ ready.slot = .idle ∧ clearingState.inReset = false ∧
      clearingState.slot = .resetDirectory 1 ∧ (sweeping ready 0 []).inReset = false := by decide

theorem test_meets_CompletionWritesTheResultWhole :
    (List.replicate 15 1#32).length ≤ 15 ∧ ([] : List Word).length ≤ 15 := by decide

theorem test_meets_UndefinedCommandIsBadField :
    (Ready ready 0#4 ∧ (0#4 = 0#4 ∨ 0#4 = 14#4 ∨ 0#4 = 15#4)) ∧
      Ready (record ready [14#32]) 14#4 ∧ Ready (record ready [15#32]) 15#4 := by
  unfold Ready; decide

theorem test_meets_BindRecordIsCheckedAndRead :
    (bindRecord (record ready [1#32, 95#32, 0x1721#32, 0x1070F0F#32, 1#32])).isSome = true ∧
      (bindRecord (record ready [1#32, 0x80#32, 0xF000001#32, 0x101#32, 1#32])).isSome = true ∧
      bindRecord (record ready [1#32, 96#32, 0x1720#32, 0x1070F0F#32]) = none := by decide

/-- A BIND of entry 95, and one of AUTO, each of string 2, slot 23. -/
def bindNumbered : State := record armedState [1#32, 95#32, 0x1720#32, 0x101#32, 1#32]
def bindAuto : State := record armedState [1#32, 0x80#32, 0x1720#32, 0x101#32, 1#32]

theorem test_meets_BindBindsTheEntry :
    (Ready bindNumbered 1#4 ∧ (bindRecord bindNumbered).map BindRecord.target = some (some 95) ∧
      bindNumbered.entry 95 = none) ∧
    (Ready bindAuto 1#4 ∧ (bindRecord bindAuto).map BindRecord.target = some none ∧
      bindAuto.entry 0 = none ∧ ∀ e', e' < (0 : EntryNo) → bindAuto.entry e' ≠ none) ∧
    (bindRecord bindNumbered).map BindRecord.key = some (.wire 2 23 none) ∧
    (∀ e' b, bindNumbered.entry e' = some b → (Key.wire 2 23 none).clash b.key = false) := by
  refine ⟨by unfold Ready; decide, by unfold Ready; decide +kernel, by decide, ?_⟩
  intro e' b h
  have h7 : ∀ e : EntryNo, e ≠ 7 → bindNumbered.entry e = none := by decide +kernel
  by_cases he : e' = 7
  · subst he
    have h' : bindNumbered.entry 7 = some source := by decide
    rw [h'] at h
    cases h
    decide
  · rw [h7 e' he] at h
    cases h

theorem test_meets_BindRefusalsChangeNothing :
    (Ready (record ready [1#32]) 1#4 ∧ bindRecord (record ready [1#32]) = none) ∧
    ((bindRecord (record armedState [1#32, 7#32, 0x1720#32, 0x101#32])).map BindRecord.target =
        some (some 7) ∧
      (record armedState [1#32, 7#32, 0x1720#32, 0x101#32]).entry 7 ≠ none) ∧
    ((bindRecord (record fullState [1#32, 0x80#32, 0x1720#32, 0x101#32])).map BindRecord.target =
        some none ∧
      ∀ e, (record fullState [1#32, 0x80#32, 0x1720#32, 0x101#32]).entry e ≠ none) ∧
    ((bindRecord (record armedState [1#32, 0x80#32, 0x300#32, 0x101#32])).map BindRecord.key =
        some (.wire 0 3 none) ∧
      (record armedState [1#32, 0x80#32, 0x300#32, 0x101#32]).entry 7 = some source ∧
      (Key.wire 0 3 none).clash source.key = true ∧
      ∀ x', x' < (7 : EntryNo) →
        (record armedState [1#32, 0x80#32, 0x300#32, 0x101#32]).entry x' = none) := by
  refine ⟨by unfold Ready; decide, by decide, by decide +kernel, by decide +kernel⟩

theorem test_meets_AmendOutsideServiceActsAtOnce :
    (Ready (record raisedState [2#32, 7#32, 1#32, 15#32]) 2#4 ∧
      (amendRecord (record raisedState [2#32, 7#32, 1#32, 15#32])).map AmendRecord.entry = some 7 ∧
      (amendRecord (record raisedState [2#32, 7#32, 1#32, 15#32])).map AmendRecord.level =
        some (some 15) ∧
      (record raisedState [2#32, 7#32, 1#32, 15#32]).entry 7 =
        some { source with phase := .raised }) ∧
    ((amendRecord (record armedState [2#32, 7#32, 32#32])).map AmendRecord.enable =
        some (some false) ∧
      (record armedState [2#32, 7#32, 32#32]).entry 7 = some source) ∧
    (Ready (record (ready.setEntry 7 (some { source with phase := .dormant })) [2#32, 7#32]) 2#4 ∧
      (amendRecord (record (ready.setEntry 7 (some { source with phase := .dormant }))
        [2#32, 7#32])).map AmendRecord.entry = some 7) := by
  refine ⟨by unfold Ready; decide, by decide, by unfold Ready; decide⟩

theorem test_meets_AmendOfHeldEntryIsStaged :
    Ready (record heldState [2#32, 7#32, 33#32, 5#32]) 2#4 ∧
      (amendRecord (record heldState [2#32, 7#32, 33#32, 5#32])).map AmendRecord.entry = some 7 ∧
      (amendRecord (record heldState [2#32, 7#32, 33#32, 5#32])).map AmendRecord.sense =
        some none ∧
      (record heldState [2#32, 7#32, 33#32, 5#32]).entry 7 =
        some { source with phase := .held service } := by
  unfold Ready; decide

/-- Every bit of the change mask set, with the largest value of each field. -/
def amendAll : State := record ready [2#32, 95#32, 63#32, 0x1070F1F#32, 0xFFFF#32]

theorem test_amend_record_is_read_by_its_mask :
    amendRecord amendAll =
        some
          { entry := 95, level := some 15, sense := some .level, eligible := some 15#4
            tag := some 0xFFFF#16, limitClass := some 7, enable := some true } ∧
      amendRecord (record amendAll [2#32, 0#32, 0x20#32, 0#32, 0xFFFF#32]) =
        some
          { entry := 0, level := none, sense := none, eligible := none, tag := none
            limitClass := none, enable := some false } := by decide

theorem test_meets_AmendRefusalsChangeNothing :
    (Ready amendAll 2#4 ∧ (amendRecord amendAll).isSome = true) ∧
    (Ready (record ready [2#32, 96#32]) 2#4 ∧ amendRecord (record ready [2#32, 96#32]) = none) ∧
    ((amendRecord (record ready [2#32, 95#32])).map AmendRecord.entry = some 95 ∧
      (record ready [2#32, 95#32]).entry 95 = none) ∧
    ((amendRecord (record postedState [2#32, 7#32, 2#32, 16#32])).map AmendRecord.sense =
        some (some .level) ∧ posted.key.isPosted = true) ∧
    (record retiringState [2#32, 7#32]).entry 7 =
      some { source with phase := .retiring service } := by
  unfold Ready; decide

theorem test_meets_RetireActsByState :
    (Ready (record ready [3#32, 96#32]) 3#4 ∧
      96 ≤ (((record ready [3#32, 96#32]).cmd[1]).extractLsb' 0 7).toNat) ∧
    (((record armedState [3#32, 7#32]).cmd[1]).extractLsb' 0 7).toNat = (7 : EntryNo).val ∧
    (record ready [3#32, 7#32]).entry 7 = none ∧ armedState.entry 7 = some source ∧
    raisedState.entry 7 = some { source with phase := .raised } ∧
    heldState.entry 7 = some { source with phase := .held service } ∧
    retiringState.entry 7 = some { source with phase := .retiring service } := by
  unfold Ready; decide

theorem test_meets_LookupAndFindReadTheDirectory :
    (Ready (record ready [5#32, 2#32, 2#32]) 5#4 ∧
      keyField (record ready [5#32, 2#32, 2#32]).cmd[2] = none) ∧
    keyField (record armedState [5#32, 0#32, 0x300#32]).cmd[2] = some (.wire 0 3 none) ∧
    (∀ e', armedState.hasKey (.wire 0 3 none) e' = true ↔ e' = 7) ∧
    (∀ e, ready.hasKey (.wire 0 3 none) e = false) ∧
    (Ready (record ready [4#32, 127#32]) 4#4 ∧
      96 ≤ (((record ready [4#32, 127#32]).cmd[1]).extractLsb' 0 7).toNat) ∧
    (((record ready [4#32, 95#32]).cmd[1]).extractLsb' 0 7).toNat = (95 : EntryNo).val := by
  unfold Ready; decide +kernel

/-- The six filters at the ends of their fields, and the words that are refused. -/
theorem test_sweep_filters :
    filterField 0xF1F0308#32 = some .any ∧ filterField 0xF1F0301#32 = some .wire ∧
      filterField 0x202#32 = some (.wireString 2) ∧
      filterField 0x170203#32 = some (.wireSlot 2 23) ∧ filterField 0xF1F0304#32 = some .posted ∧
      filterField 0xF000005#32 = some (.postedChannel 15) ∧
      (filterField 6#32 = none ∧ FilterRefused 6#32) ∧ (filterField 7#32 = none ∧ FilterRefused 7#32) ∧
      (filterField 0x302#32 = none ∧ FilterRefused 0x302#32) ∧
      (filterField 0x303#32 = none ∧ FilterRefused 0x303#32) ∧
      filterField 0x180203#32 = none ∧ FilterRefused 0x180203#32 := by
  unfold FilterRefused; decide

theorem test_meets_SweepStartsAtTheCursor :
    (Ready (record ready [6#32]) 6#4 ∧ sweepRecord (record ready [6#32]) = none) ∧
      Ready (record ready [6#32, 95#32, 63#32, 0xF01#32]) 6#4 ∧
      (sweepRecord (record ready [6#32, 95#32, 63#32, 0xF01#32])).isSome = true := by
  unfold Ready; decide

theorem test_meets_SweepExaminesOneEntry :
    (sweeping ready 94 []).slot =
        .sweep { states := 63#6, low := 1, high := 15, filter := .any, next := 94, page := [] } ∧
      ((94 : EntryNo).val < 95 ∧ ([94] : List EntryNo).length < 12) ∧
      Matches { states := 63#6, low := 1, high := 15, filter := .any, next := 94, page := [] }
        (ready.entry 94) ∧
      ¬ Matches { states := 62#6, low := 1, high := 15, filter := .any, next := 94, page := [] }
        (ready.entry 94) ∧
      (([0, 1, 2, 3, 4, 5, 6, 7, 8, 9, 10] : List EntryNo) ++ [94]).length = 12 ∧
      (95 : EntryNo).val = 95 := by
  have h : ready.entry 94 = none := by decide
  rw [h]
  refine ⟨by decide, by decide, ⟨by decide, rfl⟩, ?_, by decide, by decide⟩
  rintro ⟨h', _⟩
  revert h'
  decide

theorem test_meets_ManagementPostAndPermit :
    (Ready (record postedState [7#32, 15#32]) 7#4 ∧
      (15 : Channel).val = (((record postedState [7#32, 15#32]).cmd[1]).extractLsb' 0 4).toNat ∧
      ∀ e, (record postedState [7#32, 15#32]).hasKey (.posted 15) e = false) ∧
    (∀ e', postedState.hasKey (.posted 2) e' = true ↔ e' = 7) ∧
    (Ready (record ready [8#32, 0x10F#32, 16#32]) 8#4 ∧
      ((record ready [8#32, 0x10F#32, 16#32]).cmd[1]).getLsbD 8 = true ∧
      ((record ready [8#32, 0x10F#32, 16#32]).cmd[2]).extractLsb' 4 28 ≠ 0#28) ∧
    (((record ready [8#32, 0x10F#32, 15#32]).cmd[1]).getLsbD 8 = true ∧
      ((record ready [8#32, 0x10F#32, 15#32]).cmd[2]).extractLsb' 4 28 = 0#28) := by
  unfold Ready; decide +kernel

theorem test_meets_TakerCommandEnablesHaltsOrReads :
    (Ready (record ready [9#32, 0x303#32]) 9#4 ∧
      3#2 = ((record ready [9#32, 0x303#32]).cmd[1]).extractLsb' 8 2) ∧
    (1#2 = ((record ready [9#32, 0x104#32]).cmd[1]).extractLsb' 8 2 ∧
      4 ≤ (((record ready [9#32, 0x104#32]).cmd[1]).extractLsb' 0 3).toNat) ∧
    (2#2 = ((record ready [9#32, 0x203#32]).cmd[1]).extractLsb' 8 2 ∧
      (3 : Taker).val = (((record ready [9#32, 0x203#32]).cmd[1]).extractLsb' 0 3).toNat) ∧
    (0#2 = ((record nestedState [9#32, 1#32]).cmd[1]).extractLsb' 8 2 ∧
      (nestedState.stack 1).length ≤ 4 ∧ (nestedState.withdrawnOf 1).length ≤ 4) := by
  unfold Ready; decide

theorem test_meets_StartStopAndWakeHoldActByState :
    ((stopped .resting).string 0).state = .resting ∧ ((stopped .off).string 0).state ≠ .resting ∧
      (Ready (record (stopped .faulted) [10#32]) 10#4 ∧
        ((record (stopped .faulted) [10#32]).cmd[1]).extractLsb' 0 2 =
          BitVec.ofNat 2 (0 : StringNo).val ∧
        ((record (stopped .faulted) [10#32]).cmd[1]).extractLsb' 4 3 = 0#3 ∧
        ((stopped .faulted).string 0).state = .faulted) ∧
      ((running ready (some .scan)).string 0).state = .running ∧
      ((running ready (some .scan)).string 0).cycle ≠ none ∧
      ((running ready none).string 0).cycle = none ∧
      ((record ready [10#32, 0x12#32]).cmd[1]).extractLsb' 4 3 = 1#3 := by
  unfold Ready; decide

theorem test_meets_ModeDivisorAndStringRefusals :
    (Ready (record ready [10#32, 3#32]) 10#4 ∧
      ((record ready [10#32, 3#32]).cmd[1]).extractLsb' 0 2 = 3#2 ∧
      ((record ready [10#32, 3#32]).cmd[1]).extractLsb' 4 3 = 0#3) ∧
    (((record ready [10#32, 0x42#32]).cmd[1]).extractLsb' 0 2 = BitVec.ofNat 2 (2 : StringNo).val ∧
      4 ≤ (((record ready [10#32, 0x42#32]).cmd[1]).extractLsb' 4 3).toNat) ∧
    (((record ready [10#32, 0x20#32, 2#32]).cmd[1]).extractLsb' 4 3 = 2#3 ∧
      2 ≤ (((record ready [10#32, 0x20#32, 2#32]).cmd[2]).extractLsb' 0 2).toNat) ∧
    ((record ready [10#32, 0x20#32, 1#32]).cmd[2]).extractLsb' 0 2 = 1#2 ∧
    (((record ready [10#32, 0x30#32, 4#32]).cmd[1]).extractLsb' 4 3 = 3#3 ∧
      4 ≤ (((record ready [10#32, 0x30#32, 4#32]).cmd[2]).extractLsb' 0 11).toNat) ∧
    ((((record ready [10#32, 0x30#32, 3#32]).cmd[2]).extractLsb' 0 11).toNat < 4 ∧
      (((record ready [10#32, 0x30#32, 1023#32]).cmd[2]).extractLsb' 0 11).toNat ≤ 1023) ∧
    1023 < (((record ready [10#32, 0x30#32, 1024#32]).cmd[2]).extractLsb' 0 11).toNat ∧
    (ready.string 0).rollCalls.length ≤ 24 := by
  unfold Ready; decide

/-- A MODE of string 0: in RUNNING with a cycle in flight, for the mode in force and for another, and in
RESTING for either mode. -/
theorem test_meets_ModeDivisorAndStringRefusals_by_state :
    (Ready (record (running ready (some .scan)) [10#32, 0x20#32, 0#32]) 10#4 ∧
      ((running ready (some .scan)).string 0).state = .running ∧
      ((running ready (some .scan)).string 0).cycle ≠ none ∧
      ((running ready (some .scan)).string 0).mode = .continuous ∧
      ((running ready (some .scan)).string 0).pendingMode = none) ∧
    (Ready (record (stopped .resting) [10#32, 0x20#32, 1#32]) 10#4 ∧
      ((stopped .resting).string 0).state = .resting) ∧
    ((after (.mode 0#32) (record (running ready (some .scan)) [10#32, 0x20#32, 0#32])).string
        0).pendingMode = none ∧
    ((after (.mode 0#32) (record (running ready (some .scan)) [10#32, 0x20#32, 1#32])).string
        0).pendingMode = some .onDemand ∧
    ((after (.mode 0#32) (record (stopped .resting) [10#32, 0x20#32, 1#32])).string 0).state =
      .resting ∧
    ((after (.mode 0#32) (record (stopped .resting) [10#32, 0x20#32, 0#32])).string 0).state =
      .running ∧
    ((after (.divisor 0#32) (record ready [10#32, 0x30#32, 1023#32])).string 0).divisor = 1023#10 ∧
    ((after (.divisor 0#32) (record ready [10#32, 0x30#32, 3#32])).string 0).divisor = 64#10 := by
  unfold Ready; decide

theorem test_meets_LimitIsCheckedAsAWhole :
    (Ready (record ready [11#32, 0x207#32, 0#32, 15#32]) 11#4 ∧
      LimitOutOfRange (record ready [11#32, 0x207#32, 0#32, 15#32])) ∧
    (Ready (record ready [11#32, 0x307#32, 0x1FFFF#32, 16#32]) 11#4 ∧
      ¬ LimitOutOfRange (record ready [11#32, 0x307#32, 0x1FFFF#32, 16#32])) := by
  unfold Ready LimitOutOfRange; decide

theorem test_meets_ConditionReadsThenClearsThenEnables :
    (Ready (record ready [12#32, 0x200#32]) 12#4 ∧
      ConditionOutOfRange (record ready [12#32, 0x200#32])) ∧
    (Ready (record ready [12#32, 0x1FF#32, 0x1FF#32, 0x101FF#32]) 12#4 ∧
      ¬ ConditionOutOfRange (record ready [12#32, 0x1FF#32, 0x1FF#32, 0x101FF#32])) := by
  unfold Ready ConditionOutOfRange; decide

theorem test_meets_ResetDirectoryFreesEveryEntry :
    Ready (record ready [13#32]) 13#4 ∧
      (clearingState.slot = .resetDirectory 1 ∧ clearingState.entry 7 = some source ∧
        ∀ e', e' < (7 : EntryNo) → clearingState.entry e' = none) ∧
      ({ ready with slot := .resetDirectory 96 } : State).slot = .resetDirectory 96 ∧
      ∀ e, ({ ready with slot := .resetDirectory 96 } : State).entry e = none := by
  unfold Ready; decide +kernel

/-- A stop pending, a third fault, a quiet scan in ON-DEMAND, and none of them. -/
theorem test_meets_EndEventDecidesWhatFollows :
    ({ StringEngine.reset with stopPending := true } : StringEngine).stopPending = true ∧
      ({ StringEngine.reset with faults := 3 } : StringEngine).faults = 3 ∧
      (StringEngine.reset.faults ≠ 3 ∧
        ({ StringEngine.reset with pendingMode := some .onDemand } : StringEngine).pendingMode.getD
          .continuous = .onDemand ∧ StringEngine.reset.rollCalls = []) ∧
      StringEngine.reset.pendingMode.getD StringEngine.reset.mode = .continuous := by decide

theorem test_meets_NextCycleDropsUnnamedSlots :
    ((running ready none).string 0).state = .running ∧
      ((running ready none).string 0).cycle = none := by decide

theorem test_meets_FaultedCycleIsDiscardedWhole :
    (((running ready (some .scan)).string 0).state = .running ∧
      ((running ready (some .scan)).string 0).cycle = some .scan ∧ ScanFaulted 0x2000000000080F#54) ∧
    (((running ready (some (.rollCall 23))).string 0).cycle = some (.rollCall 23) ∧
      RollCallFaulted 23 0x4000040#27) := by
  unfold ScanFaulted RollCallFaulted; decide

theorem test_good_scan : ¬ ScanFaulted 0x20000000000807#54 := by unfold ScanFaulted; decide

theorem test_good_roll_call : ¬ RollCallFaulted 3 0x4004000#27 := by unfold RollCallFaulted; decide

theorem test_scanned_state_has_one_entry :
    ∀ e : EntryNo, e ≠ 7 → (running armedState (some .scan)).entry e = none := by decide +kernel

theorem test_meets_GoodScanActsOnEntriesAndEngine :
    Safety.KeysDistinct (running armedState (some .scan)) ∧
      ((running armedState (some .scan)).string 0).state = .running ∧
      ((running armedState (some .scan)).string 0).cycle = some .scan ∧
      ¬ ScanFaulted 0x20000000000807#54 ∧ (running armedState (some .scan)).clearing = false ∧
      (running clearingState (some .scan)).clearing = true :=
  ⟨keysDistinct_of_one_entry _ 7 test_scanned_state_has_one_entry, by decide, by decide,
    test_good_scan, by decide, by decide⟩

theorem test_meets_GoodScanPlacesAndReportsInSlotOrder :
    Safety.KeysDistinct (running armedState (some .scan)) ∧
      exec (.scanEnd 0 0x20000000000807#54) (running armedState (some .scan)) =
        .next (after (.scanEnd 0 0x20000000000807#54) (running armedState (some .scan))) ∧
      Safety.QueuesMatch (running armedState (some .scan)) ∧
      Safety.EntriesOk (running armedState (some .scan)) ∧ (1 : Level) ≠ 0 ∧
      ([] : List Culprit) = ([] : List SlotNo).map (fun k => .slot 0 k) :=
  ⟨keysDistinct_of_one_entry _ 7 test_scanned_state_has_one_entry, by rfl,
    by unfold Safety.QueuesMatch; decide +kernel,
    entriesOk_of_one_entry _ 7 source test_scanned_state_has_one_entry (by decide) test_source_is_ok,
    by decide, rfl⟩

/-- String 0 in a roll call of slot 3 with one marked entry. -/
def rolled : State := running (ready.setEntry 7 (some marked)) (some (.rollCall 3))

theorem test_rolled_state_has_one_entry : ∀ e : EntryNo, e ≠ 7 → rolled.entry e = none := by
  decide +kernel

theorem test_meets_GoodRollCallActsOnEntriesAndEngine :
    Safety.KeysDistinct rolled ∧ (rolled.string 0).state = .running ∧
      (rolled.string 0).cycle = some (.rollCall 3) ∧ ¬ RollCallFaulted 3 0x4004000#27 ∧
      rolled.clearing = false ∧ Safety.QueuesMatch rolled ∧ Safety.EntriesOk rolled :=
  ⟨keysDistinct_of_one_entry _ 7 test_rolled_state_has_one_entry, by decide, by decide,
    test_good_roll_call, by decide, by unfold Safety.QueuesMatch; decide +kernel,
    entriesOk_of_one_entry _ 7 marked test_rolled_state_has_one_entry (by decide)
      test_marked_is_ok⟩

/-- No mark answers; mark 2 answers, bound; mark 7 answers, unbound. -/
theorem test_meets_GoodRollCallReports :
    exec (.rollCallEnd 0 0x4004000#27) rolled = .next (after (.rollCallEnd 0 0x4004000#27) rolled) ∧
      (¬ RollCallFaulted 3 0x4000000#27 ∧
        ∀ m : Fin 8, (0x4000000#27).getLsbD (10 + 2 * m.val) = false) ∧
      ((0x4004000#27).getLsbD (10 + 2 * (2 : Fin 8).val) = true ∧
        ∀ m : Mark, m ∈ ([] : List Mark) ↔
          (0x4004000#27).getLsbD (10 + 2 * m.val) = true ∧
            ∀ e, rolled.hasKey (.wire 0 3 (some m)) e = false) ∧
      (¬ RollCallFaulted 3 0x5000000#27 ∧
        ∀ m : Mark, m ∈ [(7 : Mark)] ↔
          (0x5000000#27).getLsbD (10 + 2 * m.val) = true ∧
            ∀ e, rolled.hasKey (.wire 0 3 (some m)) e = false) := by
  refine ⟨by rfl, ?_, ?_, ?_⟩ <;> (try unfold RollCallFaulted) <;> decide +kernel

theorem test_meets_TickCountsEveryRunningLimit :
    heldState.inReset = false ∧ heldState.entry 0 = none ∧
      heldState.entry 7 = some { source with phase := .held service } ∧
      ({ source with phase := .held service } : Entry).service = some service ∧
      service.limit = some { row := 0, remaining := 2#16, expired := false } ∧
      source.service.bind Service.limit = none := by decide

theorem test_meets_FirstExpirySetsOverdue :
    ((ready.entry 95) = none) ∧
      ((expiring 0 .note).entry 7).bind Entry.service =
        some { service with limit := some { row := 0, remaining := 1#16, expired := true } } ∧
      (expiring 0 .note).clearing = false ∧
      ({ expiring 0 .note with slot := .resetDirectory 1 } : State).clearing = true := by decide

theorem test_meets_SecondExpiryWithdraws :
    ((expiring 1 .reclaim).entry 7).bind Entry.service =
        some
          { service with
            expiries := 1, overdue := true
            limit := some { row := 0, remaining := 1#16, expired := true } } ∧
      (expiring 1 .reclaim).clearing = false ∧
      ((expiring 1 .reclaim).limits[(0 : Fin 7)]).policy = .reclaim ∧
      ((expiring 1 .note).limits[(0 : Fin 7)]).policy = .note ∧
      ((expiring 1 .reclaim).withdrawnOf 1).length < 4 ∧
      (((expiring 1 .reclaim).setWithdrawn 1 [1, 2, 3, 4]).withdrawnOf 1).length = 4 ∧
      service.stagedDormancy = false ∧ (staged none true false).stagedDormancy = true := by decide

/-- The read-backs keep all 32 bits, whatever the answer (R49). -/
theorem test_read_backs :
    (after (.done 1 0xFFFFFF07#32) heldState).readWord 18#7 = 0xFFFFFF07#32 ∧
      (after (.yield 3 0xFFFFFFFF#32) heldState).readWord 51#7 = 0xFFFFFFFF#32 ∧
      (after (.post 0 0x80000002#32) heldState).readWord 5#7 = 0x80000002#32 ∧
      (after (.treset 2 0xABCD0000#32) heldState).readWord 38#7 = 0xABCD0000#32 ∧
      (after (.cmdWrite 7 0xFFFFFFFF#32) heldState).cmd[7] = 0xFFFFFFFF#32 := by decide

/-- A CMD word reads as stored in its assigned bits alone (R172). -/
theorem test_command_area_reads :
    (∀ k : Fin 8, fieldsBits cmdLayout[k] = cmdAssigned[k]) ∧
      (after (.cmdWrite 0 0xABCDEF12#32) heldState).readWord 64#7 = 2#32 ∧
      (after (.cmdWrite 2 0xFFFFFFFF#32) heldState).readWord 66#7 = 0xFFFFFFFF#32 ∧
      (after (.cmdWrite 4 0xFFFFFFFF#32) heldState).readWord 68#7 = 0x0F1FFFFF#32 ∧
      (after (.cmdWrite 7 0xFFFFFFFF#32) heldState).readWord 71#7 = 0#32 := by decide

/-- The first and last addresses of each run that holds no word. -/
theorem test_meets_SummaryStackAndAnswerReads :
    (Safety.QueuesMatch heldState ∧ Safety.StacksMatch heldState ∧ Safety.StacksOrdered heldState ∧
      Safety.WithdrawnOk heldState ∧ heldState.inReset = false) ∧
    ((Instr.floor 1 0#32).wellFormed = true ∧ (∀ v, Instr.floor 1 0#32 ≠ .done 1 v) ∧
      exec (.floor 1 0#32) heldState = .next (after (.floor 1 0#32) heldState)) ∧
    (NoWord 9#7 ∧ NoWord 15#7 ∧ NoWord 57#7 ∧ NoWord 63#7 ∧ NoWord 76#7 ∧ NoWord 79#7 ∧
      NoWord 96#7 ∧ NoWord 127#7) ∧
    (¬ NoWord 8#7 ∧ ¬ NoWord 56#7 ∧ ¬ NoWord 64#7 ∧ ¬ NoWord 75#7 ∧ ¬ NoWord 80#7 ∧ ¬ NoWord 95#7) ∧
    takerAddress 3 8 = 56#7 ∧ mgmtAddress 0 = 64#7 ∧ mgmtAddress 31 = 95#7 :=
  ⟨⟨test_held_state_is_sound.queues, test_held_state_is_sound.serviceStacks,
    test_held_state_is_sound.ordered, test_held_state_is_sound.withdrawn, rfl⟩,
    ⟨rfl, (by intro v h; cases h), rfl⟩, by unfold NoWord; decide, by unfold NoWord; decide,
    by decide⟩

theorem test_meets_ResetStateIsSound : exec .powerOn heldState = .next heldState.held := rfl

/-- The hypotheses of the four step invariants: a sound state and a step from it. -/
theorem test_meets_StepKeepsThePartSound :
    Safety.Sound heldState ∧ step heldState = .next heldState.refclk :=
  ⟨test_held_state_is_sound, rfl⟩

theorem test_meets_StepKeepsConditionRows :
    Safety.ConditionsOk heldState ∧ step heldState = .next heldState.refclk :=
  ⟨test_conditions_of_held_state_are_ok, rfl⟩

theorem test_meets_StepKeepsKeysDistinct :
    Safety.KeysDistinct heldState ∧ step heldState = .next heldState.refclk :=
  ⟨test_held_state_is_sound.keys, rfl⟩

theorem test_meets_StepKeepsStringEngines :
    Safety.StringsOk heldState ∧ step heldState = .next heldState.refclk :=
  ⟨test_strings_of_held_state_are_ok, rfl⟩

end Sys2Proof.Tests
end

section
/-! PROOFS. The walk of R38: it names the first eligible entry (O7). -/

namespace Sys2Proof.Claims

open Sys2Proof.Machine

/-! ### The levels of the walk -/

/-- The model's threshold is R36's. -/
theorem thresholdOf_eq (s : State) (t : Taker) : thresholdOf s t = (s.threshold t).val := by
  unfold thresholdOf State.threshold State.topLevel
  cases s.stack t with
  | nil => simp
  | cons e es => cases he : s.entry e <;> simp [he]

theorem mem_levelsDown {k : Level} : k ∈ levelsDown ↔ k ≠ 0 := by
  revert k; decide

/-- Where the walk reaches a level, the levels behind it are exactly those above it. -/
theorem mem_walked_levels {above below : List Level} {k k' : Level}
    (h : levelsDown = above ++ k :: below) : k' ∈ above ↔ k < k' := by
  have sorted : (above ++ k :: below).Pairwise (· > ·) := by rw [← h]; decide
  obtain ⟨-, hbelow, habove⟩ := List.pairwise_append.mp sorted
  constructor
  · intro hk'
    exact habove k' hk' k List.mem_cons_self
  · intro hlt
    have hmem : k' ∈ above ++ k :: below := h ▸ mem_levelsDown.mpr (Fin.ne_zero_of_lt hlt)
    rcases List.mem_append.mp hmem with hin | hin
    · exact hin
    · rcases List.mem_cons.mp hin with rfl | hin
      · exact absurd hlt (lt_irrefl _)
      · exact absurd (List.rel_of_pairwise_cons hbelow hin) (lt_asymm hlt)

/-! ### The walk -/

/-- The entry the walk names at one level, if any. -/
def offerAt (s : State) (t : Taker) (k : Level) : Option EntryNo :=
  if s.threshold t < k then (s.queue k).find? (s.eligible t) else none

theorem walk_eq_findSome (s : State) (t : Taker) :
    s.walk t = levelsDown.findSome? (offerAt s t) := rfl

/-- A level names none exactly when it is not above the threshold or none of its entries is eligible. -/
theorem offerAt_eq_none {s : State} {t : Taker} {k : Level} :
    offerAt s t k = none ↔ (thresholdOf s t < k.val → ∀ x ∈ s.queue k, s.eligible t x = false) := by
  rw [thresholdOf_eq, ← Fin.lt_def]
  unfold offerAt
  split <;> simp_all

/-- A level names an entry exactly when it is above the threshold and the entry is the first eligible one
from the head of its queue. -/
theorem offerAt_eq_some {s : State} {t : Taker} {k : Level} {e : EntryNo} :
    offerAt s t k = some e ↔
      thresholdOf s t < k.val ∧ s.eligible t e = true ∧
        ∃ before after, s.queue k = before ++ e :: after ∧ ∀ x ∈ before, s.eligible t x = false := by
  rw [thresholdOf_eq, ← Fin.lt_def]
  unfold offerAt
  split <;> simp_all [List.find?_eq_some_iff_append]

theorem walk_eq_none_iff {s : State} {t : Taker} : s.walk t = none ↔ NoEligible s t := by
  rw [walk_eq_findSome, List.findSome?_eq_none_iff]
  constructor
  · intro h k hk
    have hk0 : k ≠ 0 := by rintro rfl; exact absurd hk (Nat.not_lt_zero _)
    exact offerAt_eq_none.mp (h k (mem_levelsDown.mpr hk0)) hk
  · intro h k _
    exact offerAt_eq_none.mpr (h k)

theorem walk_eq_some_iff {s : State} {t : Taker} {e : EntryNo} :
    s.walk t = some e ↔ FirstEligible s t e := by
  rw [walk_eq_findSome, List.findSome?_eq_some_iff]
  constructor
  · rintro ⟨above, k, below, hsplit, hk, hnone⟩
    obtain ⟨hlt, helig, before, after, hqueue, hbefore⟩ := offerAt_eq_some.mp hk
    refine ⟨k, before, after, hlt, hqueue, helig, hbefore, fun k' hk' => ?_⟩
    have hk'none := hnone k' ((mem_walked_levels hsplit).mpr hk')
    exact offerAt_eq_none.mp hk'none (hlt.trans hk')
  · rintro ⟨k, before, after, hlt, hqueue, helig, hbefore, habove⟩
    have hk0 : k ≠ 0 := by rintro rfl; exact absurd hlt (Nat.not_lt_zero _)
    obtain ⟨above, below, hsplit⟩ := List.append_of_mem (mem_levelsDown.mpr hk0)
    refine ⟨above, k, below, hsplit, ?_, fun k' hk' => ?_⟩
    · exact offerAt_eq_some.mpr ⟨hlt, helig, before, after, hqueue, hbefore⟩
    · exact offerAt_eq_none.mpr fun _ => habove k' ((mem_walked_levels hsplit).mp hk')

/-- An entry of some eligible set is bound. -/
theorem entry_of_eligible {s : State} {t : Taker} {e : EntryNo} (h : s.eligible t e = true) :
    ∃ b, s.entry e = some b := by
  unfold State.eligible at h
  split at h
  · cases h
  · exact ⟨_, ‹_›⟩

theorem entry_of_firstEligible {s : State} {t : Taker} {e : EntryNo} (h : FirstEligible s t e) :
    ∃ b, s.entry e = some b := by
  obtain ⟨_, _, _, _, _, helig, _⟩ := h
  exact entry_of_eligible helig

/-- Settles O7: at each level the walk takes the first eligible entry of the queue, and it visits the levels
in descending order. -/
theorem walkNamesTheFirstEligibleEntry : Obligations.WalkNamesTheFirstEligibleEntry :=
  fun _ _ => ⟨fun _ => walk_eq_some_iff, walk_eq_none_iff⟩

end Sys2Proof.Claims
end

section
/-! PROOFS. The fields of a word that `pack` builds: what a reader of a layout of spec/10 finds in it. -/

namespace Sys2Proof.Machine.Bits

/-- Bit i of a word that holds v from bit lo on is bit i - lo of v. -/
theorem getLsbD_put (lo v i : Nat) :
    (put lo v).getLsbD i = (decide (i < 32) && decide (lo ≤ i) && v.testBit (i - lo)) := by
  have hsub : i < 32 → i - lo < 32 := by omega
  have hlo : (!decide (i < lo)) = decide (lo ≤ i) := by simp [← decide_not]
  rw [put, BitVec.getLsbD_shiftLeft, BitVec.getLsbD_ofNat, hlo]
  by_cases hi : i < 32 <;> simp [hi, hsub]

/-- A field whose place holds a value reads as that value. -/
theorem extract_put_same {lo len v : Nat} (hlen : lo + len ≤ 32) :
    (put lo v).extractLsb' lo len = BitVec.ofNat len v := by
  apply BitVec.eq_of_getLsbD_eq
  intro i hi
  have hlo32 : lo + i < 32 := by omega
  simp only [BitVec.getLsbD_extractLsb', getLsbD_put, BitVec.getLsbD_ofNat, hi, hlo32]
  simp

/-- A field above the bits of the value reads as 0. -/
theorem extract_put_above {lo v start len : Nat} (hlo : lo ≤ start) (hv : v < 2 ^ (start - lo)) :
    (put lo v).extractLsb' start len = 0#len := by
  apply BitVec.eq_of_getLsbD_eq
  intro i _
  have hbit : v.testBit (start + i - lo) = false :=
    Nat.testBit_lt_two_pow (hv.trans_le (Nat.pow_le_pow_right (by decide) (by omega)))
  simp only [BitVec.getLsbD_extractLsb', getLsbD_put, hbit]
  simp

/-- A field below the place of the value reads as 0. -/
theorem extract_put_below {lo v start len : Nat} (h : start + len ≤ lo) :
    (put lo v).extractLsb' start len = 0#len := by
  apply BitVec.eq_of_getLsbD_eq
  intro i hi
  have hlt : ¬ lo ≤ start + i := by omega
  simp only [BitVec.getLsbD_extractLsb', getLsbD_put, hlt]
  simp

/-- A field of a packed word is read from the fields it was packed of. -/
theorem extract_pack_cons (f : Nat × Nat) (fs : List (Nat × Nat)) (start len : Nat) :
    (pack (f :: fs)).extractLsb' start len =
      (put f.1 f.2).extractLsb' start len ||| (pack fs).extractLsb' start len :=
  BitVec.extractLsb'_or

theorem extract_pack_nil (start len : Nat) : (pack []).extractLsb' start len = 0#len := by
  simp [pack]

theorem flag_lt (b : Bool) : flag b < 2 := by cases b <;> decide

theorem getLsbD_ofNat_flag (b : Bool) : (BitVec.ofNat 1 (flag b)).getLsbD 0 = b := by
  cases b <;> decide

/-- A bit is the field of length 1 in its place. -/
theorem getLsbD_eq_extract (w : Word) (i : Nat) :
    w.getLsbD i = (w.extractLsb' i 1).getLsbD 0 := by
  simp

end Sys2Proof.Machine.Bits
end

section
/-! PROOFS. The order in which the arbiter passes a group (R43), and what one passed claim leaves. -/

namespace Sys2Proof.Claims

open Sys2Proof.Machine

/-- The takers of a group in the order in which the arbiter passes them when its pointer names p (R43). -/
def passed (p : Taker) (group : TakerSet) : List Taker :=
  (passOrder p).filter fun t => group.getLsbD t.val

theorem claimGroup_eq (s : State) (group : TakerSet) :
    s.claimGroup group = (passed s.arbiter group).foldl State.claimOne s :=
  List.foldl_filter.symm

theorem passed_oneTaker (p t : Taker) : passed p (oneTaker t) = [t] := by
  revert p t; decide

theorem exec_claim_of_released {s : State} (h : s.inReset = false) (group : TakerSet) :
    exec (.claim group) s = .next (s.claimGroup group) := by
  simp [exec, execClaim, h]

/-- A CLAIM of one taker is that taker's claim, passed at once. -/
theorem exec_claim_oneTaker {s : State} (h : s.inReset = false) (t : Taker) :
    exec (.claim (oneTaker t)) s = .next (s.claimOne t) := by
  rw [exec_claim_of_released h, claimGroup_eq, passed_oneTaker]
  rfl

theorem exec_peek_of_released {s : State} (h : s.inReset = false) (t : Taker) :
    exec (.peek t) s = .next (s.returnRead t (s.claimWord (s.claimAnswer t))) := by
  simp [exec, execPeek, h]

/-- The pointer names the taker whose claim was passed, whatever the answer (R44). -/
theorem arbiter_claimOne (s : State) (t : Taker) : (s.claimOne t).arbiter = t := rfl

theorem inReset_claimOne (s : State) (t : Taker) : (s.claimOne t).inReset = s.inReset := by
  rw [State.claimOne_frame]

theorem readData_returnRead (s : State) (t : Taker) (w : Word) :
    ((s.returnRead t w).port t).readData = some w := by
  simp [State.returnRead]

theorem readData_claimOne (s : State) (t : Taker) :
    ((s.claimOne t).port t).readData = some (s.claimWord (s.claimAnswer t)) :=
  readData_returnRead _ t _

end Sys2Proof.Claims
end

section
/-! PROOFS. The answer of R37 to a CLAIM or a PEEK and its word (O6), and the taker alert (O8). -/

namespace Sys2Proof.Claims

open Sys2Proof.Machine Sys2Proof.Machine.Bits

/-! ### The cases of R37 -/

theorem claimAnswer_of_clearing {s : State} {t : Taker} (hc : s.clearing = true) :
    s.claimAnswer t = .clearing := by
  simp [State.claimAnswer, hc]

theorem claimAnswer_of_halted {s : State} {t : Taker} (hc : s.clearing = false)
    (he : (s.port t).enabled = false) : s.claimAnswer t = .halted := by
  simp [State.claimAnswer, hc, he]

theorem claimAnswer_of_full {s : State} {t : Taker} (hc : s.clearing = false)
    (he : (s.port t).enabled = true) (hl : 4 ≤ (s.stack t).length) : s.claimAnswer t = .full := by
  simp [State.claimAnswer, hc, he, Config.stackDepth, hl]

theorem claimAnswer_of_noEligible {s : State} {t : Taker} (hc : s.clearing = false)
    (he : (s.port t).enabled = true) (hl : (s.stack t).length < 4) (h : NoEligible s t) :
    s.claimAnswer t = .empty := by
  simp [State.claimAnswer, hc, he, Config.stackDepth, Nat.not_le.mpr hl, walk_eq_none_iff.mpr h]

/-- The answer is an OFFER of e exactly when none of the first three cases applies and e is the first
eligible entry. -/
theorem claimAnswer_eq_offer_iff {s : State} {t : Taker} {e : EntryNo} :
    s.claimAnswer t = .offer e ↔
      s.clearing = false ∧ (s.port t).enabled = true ∧ (s.stack t).length < 4 ∧
        FirstEligible s t e := by
  rw [← walk_eq_some_iff]
  unfold State.claimAnswer Config.stackDepth
  split_ifs with hc he hl
  · simp [hc]
  · simp_all
  · simp [Nat.not_lt.mpr hl]
  · cases hw : s.walk t <;> simp_all

/-! ### The claim answer word (10.3) -/

theorem claimWord_empty (s : State) : s.claimWord .empty = 0#32 := rfl

theorem claimWord_full (s : State) : s.claimWord .full = 0x10000000#32 := rfl

theorem claimWord_halted (s : State) : s.claimWord .halted = 0x20000000#32 := rfl

theorem claimWord_clearing (s : State) : s.claimWord .clearing = 0x30000000#32 := rfl

/-- The fields of an OFFER answer: the entry's number, present level, tag and reoffered flag. -/
theorem claimWord_offer {s : State} {e : EntryNo} {b : Entry} (hb : s.entry e = some b) :
    (s.claimWord (.offer e)).getLsbD 31 = true ∧
      (s.claimWord (.offer e)).extractLsb' 28 3 = 0#3 ∧
      (s.claimWord (.offer e)).getLsbD 27 = b.reoffered ∧
      ((s.claimWord (.offer e)).extractLsb' 20 7).toNat = e.val ∧
      ((s.claimWord (.offer e)).extractLsb' 16 4).toNat = b.level.val ∧
      (s.claimWord (.offer e)).extractLsb' 0 16 = b.tag := by
  have hword : s.claimWord (.offer e) =
      pack [(31, 1), (27, flag b.reoffered), (20, e.val), (16, b.level.val), (0, b.tag.toNat)] := by
    simp [State.claimWord, hb]
  have hflag := flag_lt b.reoffered
  have hentry := e.isLt
  have hlevel := b.level.isLt
  have htag := b.tag.isLt
  rw [hword, getLsbD_eq_extract _ 31, getLsbD_eq_extract _ 27]
  simp (disch := omega) only [extract_pack_cons, extract_pack_nil, extract_put_same,
    extract_put_above, extract_put_below, BitVec.zero_or, BitVec.or_zero]
  exact ⟨by decide, trivial, getLsbD_ofNat_flag _, Nat.mod_eq_of_lt (by omega),
    Nat.mod_eq_of_lt (by omega), by simp⟩

/-- Of the five answers, an OFFER of a bound entry alone sets bit 31. -/
theorem claimWord_bit31_eq_tkalert {s : State} {t : Taker} :
    (s.claimWord (s.claimAnswer t)).getLsbD 31 = s.tkalert t := by
  unfold State.tkalert
  cases ha : s.claimAnswer t with
  | offer e =>
    obtain ⟨-, -, -, hfirst⟩ := claimAnswer_eq_offer_iff.mp ha
    obtain ⟨b, hb⟩ := entry_of_firstEligible hfirst
    exact (claimWord_offer hb).1
  | empty => rw [claimWord_empty]; decide
  | full => rw [claimWord_full]; decide
  | halted => rw [claimWord_halted]; decide
  | clearing => rw [claimWord_clearing]; decide

/-- The word that a CLAIM or a PEEK returns is that of R37's answer in the state the read meets. -/
theorem claim_or_peek_returns {s : State} {t : Taker} {i : Instr} (hr : s.inReset = false)
    (hi : i = .peek t ∨ i = .claim (oneTaker t)) :
    ∃ s', exec i s = .next s' ∧
      (s'.port t).readData = some (s.claimWord (s.claimAnswer t)) := by
  rcases hi with rfl | rfl
  · exact ⟨_, exec_peek_of_released hr t, readData_returnRead s t _⟩
  · exact ⟨_, exec_claim_oneTaker hr t, readData_claimOne s t⟩

/-- Settles O6: each case of R37 gives its answer, and each answer its word of 10.3. -/
theorem claimAndPeekAnswerByFirstCase : Obligations.ClaimAndPeekAnswerByFirstCase := by
  intro s t i hr hi
  obtain ⟨s', hexec, hread⟩ := claim_or_peek_returns hr hi
  refine ⟨s', _, hexec, hread, ?clearing, ?halted, ?full, ?walk⟩
  case clearing =>
    intro hc
    rw [claimAnswer_of_clearing hc, claimWord_clearing]
  case halted =>
    intro hc he
    rw [claimAnswer_of_halted hc he, claimWord_halted]
  case full =>
    intro hc he hl
    rw [claimAnswer_of_full hc he hl, claimWord_full]
  case walk =>
    intro hc he hl
    constructor
    · intro e hfirst
      obtain ⟨b, hb⟩ := entry_of_firstEligible hfirst
      rw [claimAnswer_eq_offer_iff.mpr ⟨hc, he, hl, hfirst⟩]
      exact ⟨b, hb, claimWord_offer hb⟩
    · intro hnone
      rw [claimAnswer_of_noEligible hc he hl hnone, claimWord_empty]

/-! ### The taker alert -/

theorem tkalert_iff_offer {s : State} {t : Taker} :
    s.tkalert t = true ↔ ∃ e, s.claimAnswer t = .offer e := by
  unfold State.tkalert
  cases s.claimAnswer t <;> simp

/-- With the part at its reset values every taker is HALTED and every queue empty (R35, R45). -/
theorem held_port_and_queues (s : State) (t : Taker) :
    (s.held.port t).enabled = false ∧ ∀ k, s.held.queue k = [] := by
  refine ⟨?_, fun k => ?_⟩
  · simp [State.held, State.reset, State.port, TakerPort.reset]
  · simp [State.held, State.reset, State.queue]

/-- POWER_ON and RESETN_ASSERT bring the part to its reset values, with RESETn asserted (R175). -/
theorem eq_held_of_exec_reset {s s' : State}
    (h : exec .powerOn s = .next s' ∨ exec .resetnAssert s = .next s') : s' = s.held := by
  rcases h with h | h
  · exact (Host.Outcome.next.inj h).symm
  · exact (Host.Outcome.next.inj h).symm

/-- Settles O8: the alert is the bit of the PEEK word that marks an OFFER, and an OFFER is the answer
exactly under the four conditions of R45. -/
theorem takerAlertIsAsserted_IffPeekWouldOffer :
    Obligations.TakerAlertIsAsserted_IffPeekWouldOffer := by
  intro s t
  have four_conditions : ∀ s : State, s.tkalert t = true ↔
      s.clearing = false ∧ (s.port t).enabled = true ∧ (s.stack t).length < 4 ∧
        ∃ e, FirstEligible s t e := by
    intro s
    simp only [tkalert_iff_offer, claimAnswer_eq_offer_iff, exists_and_left]
  refine ⟨fun hr => ?_, four_conditions s, fun s' hs' => ?_⟩
  · rw [exec_peek_of_released hr, ← claimWord_bit31_eq_tkalert]
    constructor
    · intro hbit
      exact ⟨_, _, rfl, readData_returnRead s t _, hbit⟩
    · rintro ⟨s', w, hs', hread, hbit⟩
      obtain rfl := Host.Outcome.next.inj hs'
      obtain rfl := Option.some.inj ((readData_returnRead s t _).symm.trans hread)
      exact hbit
  · obtain rfl := eq_held_of_exec_reset hs'
    obtain ⟨hhalted, hqueues⟩ := held_port_and_queues s t
    refine ⟨hhalted, hqueues, Bool.eq_false_iff.mpr fun halert => ?_⟩
    obtain ⟨-, henabled, -⟩ := (four_conditions _).mp halert
    exact absurd (hhalted.symm.trans henabled) (by decide)

end Sys2Proof.Claims
end

section
/-! PROOFS. What leaves the arbiter's pointer where it stands (R44): every operation of the part but the
passing of a claim and the two resets. -/

namespace Sys2Proof.Machine

/-! ### The operations of the directory -/

@[simp] theorem State.arbiter_occurrence (s : State) (e : EntryNo) :
    (s.occurrence e).arbiter = s.arbiter := by
  rw [State.occurrence_frame]

@[simp] theorem State.arbiter_lapse (s : State) (e : EntryNo) :
    (s.lapse e).arbiter = s.arbiter := by
  rw [State.lapse_frame]

@[simp] theorem State.arbiter_finish (s : State) (t : Taker) (e : EntryNo) :
    (s.finish t e).arbiter = s.arbiter := by
  rw [State.finish_frame]

@[simp] theorem State.arbiter_giveBack (s : State) (t : Taker) (e : EntryNo) :
    (s.giveBack t e).arbiter = s.arbiter := by
  rw [State.giveBack_frame]

@[simp] theorem State.arbiter_free (s : State) (e : EntryNo) :
    (s.free e).arbiter = s.arbiter := by
  rw [State.free_frame]

@[simp] theorem State.arbiter_withdraw (s : State) (t : Taker) (e : EntryNo) :
    (s.withdraw t e).arbiter = s.arbiter := by
  rw [State.withdraw_frame]

/-- A fold of operations that leave the pointer leaves the pointer. -/
theorem State.arbiter_foldl {α : Type} {f : State → α → State}
    (hf : ∀ s a, (f s a).arbiter = s.arbiter) (l : List α) (s : State) :
    (l.foldl f s).arbiter = s.arbiter := by
  induction l generalizing s with
  | nil => rfl
  | cons a l ih => exact (ih (f s a)).trans (hf s a)

/-! ### The taker windows -/

theorem State.arbiter_access (s : State) {f : State → State} (hf : (f s).arbiter = s.arbiter) :
    (s.access f).arbiter = s.arbiter := by
  unfold State.access
  split
  · rfl
  · exact hf

theorem State.arbiter_writeDone (s : State) (t : Taker) (v : Word) :
    (s.writeDone t v).arbiter = s.arbiter := by
  have heffect : ∀ e, (s.doneEffect t e).arbiter = s.arbiter := by
    intro e
    unfold State.doneEffect
    split <;> simp
  unfold State.writeDone
  split
  · rfl
  · exact heffect _

theorem State.arbiter_writeYield (s : State) (t : Taker) (v : Word) :
    (s.writeYield t v).arbiter = s.arbiter := by
  have heffect : ∀ e, (s.yieldEffect t e).arbiter = s.arbiter := by
    intro e
    unfold State.yieldEffect
    split <;> simp
  unfold State.writeYield
  split
  · rfl
  · exact heffect _

theorem State.arbiter_writeFloor (s : State) (t : Taker) (v : Word) :
    (s.writeFloor t v).arbiter = s.arbiter := by
  unfold State.writeFloor
  split <;> rfl

@[simp] theorem State.arbiter_deliverPost (s : State) (c : Channel) :
    (s.deliverPost c).arbiter = s.arbiter := by
  unfold State.deliverPost
  split <;> simp

theorem State.arbiter_writePost (s : State) (t : Taker) (v : Word) :
    (s.writePost t v).arbiter = s.arbiter := by
  have heffect : ∀ c, (s.postEffect t c).arbiter = s.arbiter := by
    intro c
    unfold State.postEffect
    split <;> simp
  unfold State.writePost
  split
  · rfl
  · exact heffect _

theorem State.arbiter_writeTreset (s : State) (t : Taker) (v : Word) :
    (s.writeTreset t v).arbiter = s.arbiter := by
  have hall : (s.giveBackAll t).arbiter = s.arbiter :=
    State.arbiter_foldl (fun s e => s.arbiter_giveBack t e) (s.stack t) s
  simp only [State.writeTreset, State.arbiter_setPort, State.arbiter_setWithdrawn]
  split
  · rfl
  · exact hall

/-! ### The management window -/

theorem State.arbiter_writeCmd (s : State) (k : Fin 8) (v : Word) :
    (s.writeCmd k v).arbiter = s.arbiter := by
  unfold State.writeCmd
  split <;> rfl

theorem State.arbiter_runBind (s : State) : s.runBind.arbiter = s.arbiter := by
  have hat : ∀ f e, (s.bindAt f e).arbiter = s.arbiter := by
    intro f e
    unfold State.bindAt
    split <;> simp
  unfold State.runBind
  split
  · simp
  · split
    · split
      · simp
      · exact hat _ _
    · split
      · simp
      · exact hat _ _

@[simp] theorem State.arbiter_amendEntry (s : State) (f : AmendRecord) (e : EntryNo) (b : Entry) :
    (s.amendEntry f e b).arbiter = s.arbiter := by
  simp only [State.amendEntry]
  split
  · simp
  · simp
  · split
    · simp [State.dropQueue]
    · split <;> simp [State.dropQueue, State.pushTail]
  · simp
  · simp

theorem State.arbiter_runAmend (s : State) : s.runAmend.arbiter = s.arbiter := by
  unfold State.runAmend
  split
  · simp
  · split
    · simp
    · split
      · simp
      · split <;> simp

theorem State.arbiter_runRetire (s : State) : s.runRetire.arbiter = s.arbiter := by
  have hretire : ∀ e b, (s.retireEntry e b).arbiter = s.arbiter := by
    intro e b
    unfold State.retireEntry
    split <;> simp
  unfold State.runRetire
  split
  · simp
  · split
    · simp
    · dsimp only
      split <;> simp [hretire]

theorem State.arbiter_runLookup (s : State) : s.runLookup.arbiter = s.arbiter := by
  unfold State.runLookup
  split
  · simp
  · split <;> simp

theorem State.arbiter_runFind (s : State) : s.runFind.arbiter = s.arbiter := by
  unfold State.runFind
  split
  · simp
  · split <;> simp

theorem State.arbiter_runSweep (s : State) : s.runSweep.arbiter = s.arbiter := by
  unfold State.runSweep
  split <;> simp

theorem State.arbiter_examine (s : State) (r : SweepRun) : (s.examine r).arbiter = s.arbiter := by
  unfold State.examine
  split
  · simp
  · split <;> simp

theorem State.arbiter_runPostCommand (s : State) : s.runPostCommand.arbiter = s.arbiter := by
  unfold State.runPostCommand
  split <;> simp

theorem State.arbiter_runPermit (s : State) : s.runPermit.arbiter = s.arbiter := by
  unfold State.runPermit
  split
  · split <;> simp
  · simp

theorem State.arbiter_runTakerEnable (s : State) : s.runTakerEnable.arbiter = s.arbiter := by
  unfold State.runTakerEnable
  split <;> simp

theorem State.arbiter_runTakerHalt (s : State) : s.runTakerHalt.arbiter = s.arbiter := by
  unfold State.runTakerHalt
  split <;> simp

theorem State.arbiter_runTakerNone (s : State) : s.runTakerNone.arbiter = s.arbiter := by
  unfold State.runTakerNone
  split <;> simp

@[simp] theorem State.arbiter_completeString (s : State) (n : StringNo) (r : ResultCode) :
    (s.completeString n r).arbiter = s.arbiter := State.arbiter_complete s _ _ _

theorem State.arbiter_runStart (s : State) : s.runStart.arbiter = s.arbiter := by
  unfold State.runStart
  split <;> simp

theorem State.arbiter_runStop (s : State) : s.runStop.arbiter = s.arbiter := by
  unfold State.runStop
  split <;> simp

theorem State.arbiter_runMode (s : State) : s.runMode.arbiter = s.arbiter := by
  unfold State.runMode
  split
  · simp
  · split <;> simp

theorem State.arbiter_runDivisor (s : State) : s.runDivisor.arbiter = s.arbiter := by
  unfold State.runDivisor
  split
  · simp
  · split <;> simp

theorem State.arbiter_runStringBadAction (s : State) :
    s.runStringBadAction.arbiter = s.arbiter := by
  unfold State.runStringBadAction
  split <;> simp

theorem State.arbiter_runLimit (s : State) : s.runLimit.arbiter = s.arbiter := by
  have hrow : ∀ s : State, ∀ r, (s.setLimitRow r).arbiter = s.arbiter := by
    intro s r; cases r <;> rfl
  have hprescaler : ∀ s : State, ∀ p, (s.setPrescaler p).arbiter = s.arbiter := by
    intro s p; cases p <;> rfl
  unfold State.runLimit
  split <;> simp [hrow, hprescaler]

@[simp] theorem State.arbiter_applyCondition (s : State) (f : ConditionRecord) :
    (s.applyCondition f).arbiter = s.arbiter := rfl

theorem State.arbiter_runCondition (s : State) : s.runCondition.arbiter = s.arbiter := by
  unfold State.runCondition
  split <;> simp

/-- No row of GO moves the pointer. -/
theorem State.arbiter_runRow (s : State) (r : GoRow) : (s.runRow r).arbiter = s.arbiter := by
  cases r with
  | whileBusy => rfl
  | undefinedCommand => exact s.arbiter_complete _ _ _
  | bind => exact s.arbiter_runBind
  | amend => exact s.arbiter_runAmend
  | retire => exact s.arbiter_runRetire
  | lookup => exact s.arbiter_runLookup
  | find => exact s.arbiter_runFind
  | sweep => exact s.arbiter_runSweep
  | postCommand => exact s.arbiter_runPostCommand
  | permit => exact s.arbiter_runPermit
  | takerNone => exact s.arbiter_runTakerNone
  | takerEnable => exact s.arbiter_runTakerEnable
  | takerHalt => exact s.arbiter_runTakerHalt
  | takerBadAction => exact s.arbiter_complete _ _ _
  | start => exact s.arbiter_runStart
  | stop => exact s.arbiter_runStop
  | mode => exact s.arbiter_runMode
  | divisor => exact s.arbiter_runDivisor
  | stringBadAction => exact s.arbiter_runStringBadAction
  | limit => exact s.arbiter_runLimit
  | condition => exact s.arbiter_runCondition
  | resetDirectory => rfl

/-- Under whatever row its sender names, a write to GO is the row that slot and record make it. -/
theorem State.goAs_runRow (s : State) (r : GoRow) :
    (s.goAs r fun s => s.runRow r) = s.access State.writeGo := by
  unfold State.goAs State.access
  split
  · rfl
  · dsimp only [State.writeGo]
    split
    · rename_i h; rw [h]
    · rfl

theorem State.arbiter_goAs (s : State) (r : GoRow) :
    (s.goAs r fun s => s.runRow r).arbiter = s.arbiter := by
  rw [State.goAs_runRow]
  exact s.arbiter_access (s.arbiter_runRow _)

theorem State.arbiter_busWrite (s : State) (a : BitVec 7) (v : Word) :
    (s.busWrite a v).arbiter = s.arbiter := by
  unfold State.busWrite
  split
  case h_1 => exact s.arbiter_writeDone _ v
  case h_2 => exact s.arbiter_writeYield _ v
  case h_3 => exact s.arbiter_writeFloor _ v
  case h_4 => exact s.arbiter_writePost _ v
  case h_5 => exact s.arbiter_writeTreset _ v
  case h_11 => exact s.arbiter_writeCmd _ v
  case h_12 => exact s.arbiter_runRow _
  all_goals rfl

/-! ### The request strings -/

@[simp] theorem State.arbiter_updateString (s : State) (n : StringNo)
    (f : StringEngine → StringEngine) : (s.updateString n f).arbiter = s.arbiter := rfl

theorem State.arbiter_lapseIfLevel (s : State) (e : EntryNo) :
    (s.lapseIfLevel e).arbiter = s.arbiter := by
  unfold State.lapseIfLevel
  split <;> simp

theorem State.arbiter_scanUnmarked (s : State) (active was : Bool) (e : EntryNo) :
    (s.scanUnmarked active was e).arbiter = s.arbiter := by
  unfold State.scanUnmarked
  split <;> split <;> simp

theorem State.arbiter_scanSlot (s : State) (n : StringNo) (samples : BitVec 54) (k : SlotNo) :
    (s.scanSlot n samples k).arbiter = s.arbiter := by
  have hfinding : ∀ active was,
      (s.scanSlotFinding n k active was).arbiter = s.arbiter := by
    intro active was
    unfold State.scanSlotFinding
    split
    · exact s.arbiter_scanUnmarked active was _
    · split
      · split <;> simp
      · split
        · simp
        · exact State.arbiter_foldl State.arbiter_lapseIfLevel _ s
  simp only [State.scanSlot]
  split <;> simp [hfinding]

theorem State.arbiter_faultedEnd (s : State) (n : StringNo) :
    (s.faultedEnd n).arbiter = s.arbiter := by
  simp only [State.faultedEnd]
  split <;> simp

theorem State.arbiter_endScan (s : State) (n : StringNo) (samples : BitVec 54) :
    (s.endScan n samples).arbiter = s.arbiter := by
  simp only [State.endScan, State.arbiter_updateString]
  split
  · exact s.arbiter_faultedEnd n
  · exact State.arbiter_foldl (fun s k => s.arbiter_scanSlot n samples k) _ s

theorem State.arbiter_rollCallMark (s : State) (n : StringNo) (k : SlotNo) (hist : BitVec 8)
    (samples : BitVec 27) (m : Mark) :
    (s.rollCallMark n k hist samples m).arbiter = s.arbiter := by
  unfold State.rollCallMark
  split
  · split <;> simp
  · split
    · split
      · split <;> simp
      · simp
    · exact s.arbiter_lapseIfLevel _

theorem State.arbiter_goodRollCall (s : State) (n : StringNo) (k : SlotNo) (samples : BitVec 27) :
    (s.goodRollCall n k samples).arbiter = s.arbiter := by
  have hfound : ∀ hist, ((List.finRange 8).foldl
      (fun s' m => s'.rollCallMark n k hist samples m) s).arbiter = s.arbiter :=
    fun hist => State.arbiter_foldl (fun s m => s.arbiter_rollCallMark n k hist samples m) _ s
  simp only [State.goodRollCall, State.arbiter_updateString]
  split <;> simp only [State.arbiter_report, hfound]

theorem State.arbiter_endRollCall (s : State) (n : StringNo) (k : SlotNo) (samples : BitVec 27) :
    (s.endRollCall n k samples).arbiter = s.arbiter := by
  simp only [State.endRollCall, State.arbiter_updateString]
  split
  · exact s.arbiter_faultedEnd n
  · exact s.arbiter_goodRollCall n k samples

/-! ### Every command -/

/-- An answer in which the pointer stands where it did in s. -/
def KeepsArbiter (s : State) (o : Host.Outcome State Fault Refusal) : Prop :=
  ∀ s', o = .next s' → s'.arbiter = s.arbiter

theorem keepsArbiter_next {s a : State} (h : a.arbiter = s.arbiter) : KeepsArbiter s (.next a) := by
  intro s' hs'
  obtain rfl := Host.Outcome.next.inj hs'
  exact h

theorem keepsArbiter_goAs (s : State) (r : GoRow) :
    KeepsArbiter s (.next (s.goAs r fun s => s.runRow r)) :=
  keepsArbiter_next (s.arbiter_goAs r)

theorem keepsArbiter_execSweepExamination (s : State) :
    KeepsArbiter s (execSweepExamination s) := by
  unfold execSweepExamination
  split
  · exact keepsArbiter_next (s.arbiter_examine _)
  · exact keepsArbiter_next rfl
  · exact keepsArbiter_next rfl

theorem keepsArbiter_execClearingFree (s : State) : KeepsArbiter s (execClearingFree s) := by
  unfold execClearingFree
  split
  · exact keepsArbiter_next (s.arbiter_free _)
  all_goals exact keepsArbiter_next rfl

theorem keepsArbiter_execResetDirectoryCompletion (s : State) :
    KeepsArbiter s (execResetDirectoryCompletion s) := by
  unfold execResetDirectoryCompletion
  split
  · exact keepsArbiter_next (s.clearedLists.arbiter_complete _ _ _)
  all_goals exact keepsArbiter_next rfl

theorem keepsArbiter_execNextCycleChoice (n : StringNo) (s : State) :
    KeepsArbiter s (execNextCycleChoice n s) := by
  unfold execNextCycleChoice
  split <;> exact keepsArbiter_next rfl

theorem keepsArbiter_execScanEnd (n : StringNo) (samples : BitVec 54) (s : State) :
    KeepsArbiter s (execScanEnd n samples s) := by
  unfold execScanEnd
  split
  · exact keepsArbiter_next (s.arbiter_endScan n samples)
  · exact keepsArbiter_next rfl

theorem keepsArbiter_execRollCallEnd (n : StringNo) (samples : BitVec 27) (s : State) :
    KeepsArbiter s (execRollCallEnd n samples s) := by
  unfold execRollCallEnd
  split
  · exact keepsArbiter_next (s.arbiter_endRollCall n _ samples)
  all_goals exact keepsArbiter_next rfl

theorem keepsArbiter_execWakeHold (n : StringNo) (s : State) :
    KeepsArbiter s (execWakeHold n s) := by
  unfold execWakeHold
  split <;> exact keepsArbiter_next rfl

theorem keepsArbiter_execFirstExpiry (e : EntryNo) (s : State) :
    KeepsArbiter s (execFirstExpiry e s) := by
  unfold execFirstExpiry
  split
  · exact keepsArbiter_next rfl
  · split
    · refine keepsArbiter_next ?_
      split <;> rfl
    · exact keepsArbiter_next rfl

theorem keepsArbiter_execSecondExpiry (e : EntryNo) (s : State) :
    KeepsArbiter s (execSecondExpiry e s) := by
  unfold execSecondExpiry
  split
  · exact keepsArbiter_next rfl
  · split
    · refine keepsArbiter_next ?_
      split
      · rfl
      · unfold State.takeSecondExpiry
        split <;> simp
    · exact keepsArbiter_next rfl

/-- No command but a CLAIM and the two resets moves the pointer (R42, R44). -/
theorem exec_keepsArbiter (i : Instr) (s : State) (hclaim : ∀ group, i ≠ .claim group)
    (hon : i ≠ .powerOn) (hassert : i ≠ .resetnAssert) : KeepsArbiter s (exec i s) := by
  cases i with
  | claim group => exact absurd rfl (hclaim group)
  | powerOn => exact absurd rfl hon
  | resetnAssert => exact absurd rfl hassert
  | peek t => exact keepsArbiter_next rfl
  | done t v => exact keepsArbiter_next (s.arbiter_access (s.arbiter_writeDone t v))
  | yield t v => exact keepsArbiter_next (s.arbiter_access (s.arbiter_writeYield t v))
  | floor t v => exact keepsArbiter_next (s.arbiter_access (s.arbiter_writeFloor t v))
  | post t v => exact keepsArbiter_next (s.arbiter_access (s.arbiter_writePost t v))
  | treset t v => exact keepsArbiter_next (s.arbiter_access (s.arbiter_writeTreset t v))
  | ignoredWrite a v =>
    refine keepsArbiter_next (s.arbiter_access ?_)
    split
    · exact s.arbiter_busWrite a v
    · rfl
  | cmdWrite k v => exact keepsArbiter_next (s.arbiter_access (s.arbiter_writeCmd k v))
  | mstatRead =>
    refine keepsArbiter_next ?_
    split <;> rfl
  | mctlWrite v => exact keepsArbiter_next (s.arbiter_access rfl)
  | undefinedCommand go => exact keepsArbiter_goAs s .undefinedCommand
  | bind go => exact keepsArbiter_goAs s .bind
  | amend go => exact keepsArbiter_goAs s .amend
  | retire go => exact keepsArbiter_goAs s .retire
  | lookup go => exact keepsArbiter_goAs s .lookup
  | find go => exact keepsArbiter_goAs s .find
  | sweep go => exact keepsArbiter_goAs s .sweep
  | postCommand go => exact keepsArbiter_goAs s .postCommand
  | permit go => exact keepsArbiter_goAs s .permit
  | takerEnable go => exact keepsArbiter_goAs s .takerEnable
  | takerHalt go => exact keepsArbiter_goAs s .takerHalt
  | takerNone go => exact keepsArbiter_goAs s .takerNone
  | takerBadAction go => exact keepsArbiter_goAs s .takerBadAction
  | start go => exact keepsArbiter_goAs s .start
  | stop go => exact keepsArbiter_goAs s .stop
  | mode go => exact keepsArbiter_goAs s .mode
  | divisor go => exact keepsArbiter_goAs s .divisor
  | stringBadAction go => exact keepsArbiter_goAs s .stringBadAction
  | limit go => exact keepsArbiter_goAs s .limit
  | condition go => exact keepsArbiter_goAs s .condition
  | resetDirectory go => exact keepsArbiter_goAs s .resetDirectory
  | goWhileBusy go => exact keepsArbiter_goAs s .whileBusy
  | sweepExamination => exact keepsArbiter_execSweepExamination s
  | clearingFree => exact keepsArbiter_execClearingFree s
  | resetDirectoryCompletion => exact keepsArbiter_execResetDirectoryCompletion s
  | nextCycleChoice n => exact keepsArbiter_execNextCycleChoice n s
  | scanEnd n samples => exact keepsArbiter_execScanEnd n samples s
  | rollCallEnd n samples => exact keepsArbiter_execRollCallEnd n samples s
  | wakeHold n => exact keepsArbiter_execWakeHold n s
  | tick =>
    refine keepsArbiter_next ?_
    split <;> rfl
  | firstExpiry e => exact keepsArbiter_execFirstExpiry e s
  | secondExpiry e => exact keepsArbiter_execSecondExpiry e s
  | resetnRelease held =>
    change KeepsArbiter s (execResetnRelease held s)
    unfold execResetnRelease
    split
    · split
      · intro s' hs'; cases hs'
      · exact keepsArbiter_next rfl
    · exact keepsArbiter_next rfl

end Sys2Proof.Machine
end

section
/-! PROOFS. The pointer after a group of claims, after a reset, and in the windows (O12). -/

namespace Sys2Proof.Claims

open Sys2Proof.Machine

/-- The first taker passed is followed by the rest of the group, in the order that begins behind it: a fact
about four takers and sixteen groups. -/
theorem passed_eq_cons {p t : Taker} {group : TakerSet} (h : FirstPassed p group t) :
    passed p group = t :: passed t (group &&& ~~~(oneTaker t)) := by
  unfold FirstPassed at h
  revert p t group; decide

/-- The last taker passed ends the order. -/
theorem getLast?_passed {p t : Taker} {group : TakerSet} (h : LastPassed p group t) :
    (passed p group).getLast? = some t := by
  unfold LastPassed at h
  revert p t group; decide

/-- The first claim of a group is passed, and the rest of the group meets the part as it left it (R43). -/
theorem claimGroup_of_firstPassed {s : State} {group : TakerSet} {t : Taker}
    (h : FirstPassed s.arbiter group t) :
    s.claimGroup group = (s.claimOne t).claimGroup (group &&& ~~~(oneTaker t)) := by
  rw [claimGroup_eq, claimGroup_eq, passed_eq_cons h, arbiter_claimOne]
  rfl

theorem exec_claim_of_firstPassed {s : State} {group : TakerSet} {t : Taker}
    (hr : s.inReset = false) (h : FirstPassed s.arbiter group t) :
    exec (.claim group) s = exec (.claim (group &&& ~~~(oneTaker t))) (s.claimOne t) := by
  have hr' : (s.claimOne t).inReset = false := (inReset_claimOne s t).trans hr
  rw [exec_claim_of_released hr, exec_claim_of_released hr', claimGroup_of_firstPassed h]

/-- After a group the pointer names the taker passed last (R44). -/
theorem arbiter_claimGroup {s : State} {group : TakerSet} {t : Taker}
    (h : LastPassed s.arbiter group t) : (s.claimGroup group).arbiter = t := by
  obtain ⟨before, hpassed⟩ := List.getLast?_eq_some_iff.mp (getLast?_passed h)
  rw [claimGroup_eq, hpassed, List.foldl_concat]
  rfl

/-- Reads of a group while RESETn is asserted pass no claim (R42, R172). -/
theorem arbiter_claimInReset (s : State) (group : TakerSet) :
    (s.claimInReset group).arbiter = s.arbiter := by
  refine State.arbiter_foldl (fun s t => ?_) (passOrder s.arbiter) s
  split <;> rfl

/-- Settles O12: the pointer moves with each claim passed, and by the frame of every other command with
nothing else; no window's word is made from it. -/
theorem arbiterPointerFollowsClaimsAlone : Obligations.ArbiterPointerFollowsClaimsAlone := by
  refine ⟨?reset, ?inReset, ?first, ?last, ?others, ?windows⟩
  case reset =>
    intro s s' hs'
    obtain rfl := eq_held_of_exec_reset hs'
    rfl
  case inReset =>
    intro s s' group hr hs'
    obtain rfl := Host.Outcome.next.inj hs'
    rw [if_pos hr]
    exact arbiter_claimInReset s group
  case first =>
    intro s group hr hp hmem
    have hfirst : FirstPassed s.arbiter group 0 := by
      rw [hp]
      exact ⟨hmem, 0, rfl, fun earlier hlt => absurd hlt (Fin.not_lt_zero earlier)⟩
    exact ⟨_, exec_claim_oneTaker hr 0, exec_claim_of_firstPassed hr hfirst⟩
  case last =>
    intro s group t hr hlast
    exact ⟨_, exec_claim_of_released hr group, arbiter_claimGroup hlast⟩
  case others =>
    intro i s s' hclaim hon hassert hs'
    exact exec_keepsArbiter i s hclaim hon hassert s' hs'
  case windows =>
    intro s p a
    rfl

end Sys2Proof.Claims
end

section
/-! PROOFS. What one write to a taker window leaves behind it: the port's answer (R50), one report (R165), and
the threshold and alert line where nothing they are made of changed (R36, R45). -/

namespace Sys2Proof.Claims

open Sys2Proof.Machine

/-! ### The answer at the port -/

/-- A write recorded at one port after an effect that left every port as it stood. -/
theorem portAnswered_setPort {s u : State} (hu : u.takers = s.takers) (t : Taker) (a : Answer)
    (word : TakerPort → TakerPort) :
    PortAnswered s (u.setPort t (word { u.port t with answer := a })) t a word := by
  have hport : ∀ t', u.port t' = s.port t' := fun t' => by simp only [State.port, hu]
  constructor
  · rw [State.port_setPort_same, hport]
  · intro t' hne
    rw [State.port_setPort_ne _ _ _ _ hne.symm, hport]

theorem portAnswered_recordDone {s u : State} (hu : u.takers = s.takers) (t : Taker) (v : Word)
    (a : Answer) : PortAnswered s (u.recordDone t v a) t a (fun p => { p with lastDone := v }) :=
  portAnswered_setPort hu t a fun p => { p with lastDone := v }

/-! ### One report -/

theorem count_reported (c : Condition) (w : Culprit) :
    (c.reported w).count.toNat = min 255 (c.count.toNat + 1) := by
  unfold Condition.reported
  dsimp only
  split <;> bv_omega

/-- The model's report is the report of R165. -/
theorem reportedOnce_report (s : State) (r : CondRow) (w : Culprit) :
    ReportedOnce s (s.report r w) r w := by
  have hzero : (s.cond r).count = 0#8 ↔ (s.cond r).count.toNat = 0 := BitVec.toNat_inj.symm
  refine ⟨?latched, ?count, ?culprit, ?enabled, ?others⟩
  case latched => rw [State.cond_report_same]; rfl
  case count => rw [State.cond_report_same, count_reported]
  case culprit => simp only [State.cond_report_same, Condition.reported, hzero]
  case enabled => rw [State.cond_report_same]; rfl
  case others => exact fun r' hne => State.cond_report_ne s r w r' hne.symm

/-! ### What the threshold and the alert line are made of -/

/-- The threshold is made of the entries, the taker's stack and its floor (R36). -/
theorem threshold_congr {s s' : State} {t : Taker} (hentries : s'.entries = s.entries)
    (hstacks : s'.serviceStacks = s.serviceStacks) (hfloor : (s'.port t).floor = (s.port t).floor) :
    s'.threshold t = s.threshold t := by
  simp only [State.threshold, State.topLevel, State.stack, State.entry, hentries, hstacks, hfloor]

/-- The alert line is made of the directory, the slot, and the taker's enable state and floor (R45). -/
theorem tkalert_congr {s s' : State} {t : Taker} (hentries : s'.entries = s.entries)
    (hqueues : s'.queues = s.queues) (hstacks : s'.serviceStacks = s.serviceStacks)
    (hslot : s'.slot = s.slot) (henabled : (s'.port t).enabled = (s.port t).enabled)
    (hfloor : (s'.port t).floor = (s.port t).floor) : s'.tkalert t = s.tkalert t := by
  have heligible : s'.eligible t = s.eligible t := by
    funext e
    simp only [State.eligible, State.entry, hentries]
  have hwalk : s'.walk t = s.walk t := by
    simp only [State.walk, State.queue, threshold_congr hentries hstacks hfloor, heligible, hqueues]
  have hclearing : s'.clearing = s.clearing := by rw [State.clearing, hslot, State.clearing]
  have hstack : s'.stack t = s.stack t := by rw [State.stack, hstacks, State.stack]
  simp only [State.tkalert, State.claimAnswer, hclearing, henabled, hstack, hwalk]

end Sys2Proof.Claims
end

section
/-! PROOFS. The DONE answered LATE (O14). -/

namespace Sys2Proof.Claims

open Sys2Proof.Machine

/-- Bits 7:0 of a word written to DONE or YIELD name the entry (R51). -/
theorem entryField_eq_some {v : Word} {e : EntryNo} : entryField v = some e ↔ low8 v = e.val :=
  entryNo?_eq_some.trans eq_comm

theorem exec_done_of_released {s : State} (hr : s.inReset = false) (t : Taker) (v : Word) :
    exec (.done t v) s = .next (s.writeDone t v) :=
  congrArg Host.Outcome.next (s.access_run _ hr)

/-- The fourth case of R58. -/
theorem doneAnswer_eq_late {s : State} {t : Taker} {e : EntryNo} (hc : s.clearing = false)
    (hstack : e ∉ s.stack t) (hwithdrawn : e ∈ s.withdrawnOf t) : s.doneAnswer t e = .late := by
  have hhead : (s.stack t).head? ≠ some e := fun h => hstack (List.mem_of_head? h)
  simp [State.doneAnswer, hc, hhead, hstack, hwithdrawn]

/-- A DONE answered LATE as updates of the state: the list, the report and the port (R50, R60). -/
theorem writeDone_of_late {s : State} {t : Taker} {v : Word} {e : EntryNo} (he : low8 v = e.val)
    (ha : s.doneAnswer t e = .late) :
    s.writeDone t v =
      ((s.setWithdrawn t ((s.withdrawnOf t).erase e)).report .late (.entry e)).recordDone t v
        .late := by
  simp only [State.writeDone, entryField_eq_some.mpr he, State.doneEffect, ha]

/-- Settles O14: the three updates of a DONE answered LATE leave alone all that the threshold and the alert
line are made of. -/
theorem lateDoneRemovesTheNumber : Obligations.LateDoneRemovesTheNumber := by
  intro s t v e hr hc he hstack hwithdrawn
  have hport := portAnswered_recordDone (s := s)
    (u := (s.setWithdrawn t ((s.withdrawnOf t).erase e)).report .late (.entry e)) rfl t v .late
  have hfloor := congrArg TakerPort.floor hport.1
  have henabled := congrArg TakerPort.enabled hport.1
  rw [exec_done_of_released hr, writeDone_of_late he (doneAnswer_eq_late hc hstack hwithdrawn)]
  refine ⟨_, rfl, rfl, hport, ?list, ?report, ?threshold, ?alert⟩
  case list =>
    intro t'
    simp only [eq_comm (a := t')]
    exact State.withdrawnOf_setWithdrawn s t _ t'
  case report =>
    exact reportedOnce_report (s.setWithdrawn t ((s.withdrawnOf t).erase e)) .late (.entry e)
  case threshold => exact threshold_congr rfl rfl hfloor
  case alert => exact tkalert_congr rfl rfl rfl rfl henabled hfloor

end Sys2Proof.Claims
end

section
/-! PROOFS. What leaves every taker port where it stands: every operation of the part but the passing of a
claim, a PEEK, a write to a taker window, a TAKER command and the two resets (R48). -/

namespace Sys2Proof.Machine

/-! ### The operations of the directory -/

@[simp] theorem State.takers_occurrence (s : State) (e : EntryNo) :
    (s.occurrence e).takers = s.takers := by
  rw [State.occurrence_frame]

@[simp] theorem State.takers_lapse (s : State) (e : EntryNo) :
    (s.lapse e).takers = s.takers := by
  rw [State.lapse_frame]

@[simp] theorem State.takers_finish (s : State) (t : Taker) (e : EntryNo) :
    (s.finish t e).takers = s.takers := by
  rw [State.finish_frame]

@[simp] theorem State.takers_giveBack (s : State) (t : Taker) (e : EntryNo) :
    (s.giveBack t e).takers = s.takers := by
  rw [State.giveBack_frame]

@[simp] theorem State.takers_free (s : State) (e : EntryNo) : (s.free e).takers = s.takers := by
  rw [State.free_frame]

@[simp] theorem State.takers_take (s : State) (t : Taker) (e : EntryNo) :
    (s.take t e).takers = s.takers := by
  rw [State.take_frame]

@[simp] theorem State.takers_withdraw (s : State) (t : Taker) (e : EntryNo) :
    (s.withdraw t e).takers = s.takers := by
  rw [State.withdraw_frame]

/-- A fold of operations that leave the ports leaves the ports. -/
theorem State.takers_foldl {α : Type} {f : State → α → State}
    (hf : ∀ s a, (f s a).takers = s.takers) (l : List α) (s : State) :
    (l.foldl f s).takers = s.takers := by
  induction l generalizing s with
  | nil => rfl
  | cons a l ih => exact (ih (f s a)).trans (hf s a)

/-! ### What a taker's write does beside its answer -/

theorem State.takers_doneEffect (s : State) (t : Taker) (e : EntryNo) :
    (s.doneEffect t e).takers = s.takers := by
  unfold State.doneEffect
  split <;> simp

theorem State.takers_yieldEffect (s : State) (t : Taker) (e : EntryNo) :
    (s.yieldEffect t e).takers = s.takers := by
  unfold State.yieldEffect
  split <;> simp

@[simp] theorem State.takers_deliverPost (s : State) (c : Channel) :
    (s.deliverPost c).takers = s.takers := by
  unfold State.deliverPost
  split <;> simp

theorem State.takers_postEffect (s : State) (t : Taker) (c : Channel) :
    (s.postEffect t c).takers = s.takers := by
  unfold State.postEffect
  split <;> simp

theorem State.takers_giveBackAll (s : State) (t : Taker) :
    (s.giveBackAll t).takers = s.takers :=
  State.takers_foldl (fun s e => s.takers_giveBack t e) (s.stack t) s

/-! ### The rows of GO -/

@[simp] theorem State.takers_bindAt (s : State) (f : BindRecord) (e : EntryNo) :
    (s.bindAt f e).takers = s.takers := by
  unfold State.bindAt
  split <;> simp

theorem State.takers_runBind (s : State) : s.runBind.takers = s.takers := by
  unfold State.runBind
  split
  · simp
  · split <;> split <;> simp

@[simp] theorem State.takers_amendEntry (s : State) (f : AmendRecord) (e : EntryNo) (b : Entry) :
    (s.amendEntry f e b).takers = s.takers := by
  simp only [State.amendEntry]
  split
  case h_3 =>
    split
    · simp [State.dropQueue]
    · split <;> simp [State.dropQueue, State.pushTail]
  all_goals simp

theorem State.takers_runAmend (s : State) : s.runAmend.takers = s.takers := by
  unfold State.runAmend
  split
  · simp
  · split
    · simp
    · split
      · simp
      · split <;> simp

@[simp] theorem State.takers_retireEntry (s : State) (e : EntryNo) (b : Entry) :
    (s.retireEntry e b).takers = s.takers := by
  unfold State.retireEntry
  split <;> simp

theorem State.takers_runRetire (s : State) : s.runRetire.takers = s.takers := by
  unfold State.runRetire
  split
  · simp
  · split
    · simp
    · dsimp only
      split <;> simp

theorem State.takers_runLookup (s : State) : s.runLookup.takers = s.takers := by
  unfold State.runLookup
  split
  · simp
  · split <;> simp

theorem State.takers_runFind (s : State) : s.runFind.takers = s.takers := by
  unfold State.runFind
  split
  · simp
  · split <;> simp

theorem State.takers_runSweep (s : State) : s.runSweep.takers = s.takers := by
  unfold State.runSweep
  split <;> simp

theorem State.takers_runPostCommand (s : State) : s.runPostCommand.takers = s.takers := by
  unfold State.runPostCommand
  split <;> simp

theorem State.takers_runPermit (s : State) : s.runPermit.takers = s.takers := by
  unfold State.runPermit
  split
  · split <;> simp
  · simp

theorem State.takers_runTakerNone (s : State) : s.runTakerNone.takers = s.takers := by
  unfold State.runTakerNone
  split <;> simp

@[simp] theorem State.takers_completeString (s : State) (n : StringNo) (r : ResultCode) :
    (s.completeString n r).takers = s.takers := State.takers_complete s _ _ _

theorem State.takers_runStart (s : State) : s.runStart.takers = s.takers := by
  unfold State.runStart
  split <;> simp

theorem State.takers_runStop (s : State) : s.runStop.takers = s.takers := by
  unfold State.runStop
  split <;> simp

theorem State.takers_runMode (s : State) : s.runMode.takers = s.takers := by
  unfold State.runMode
  split
  · simp
  · split <;> simp

theorem State.takers_runDivisor (s : State) : s.runDivisor.takers = s.takers := by
  unfold State.runDivisor
  split
  · simp
  · split <;> simp

theorem State.takers_runStringBadAction (s : State) : s.runStringBadAction.takers = s.takers := by
  unfold State.runStringBadAction
  split <;> simp

@[simp] theorem State.takers_setLimitRow (s : State) (r : Option (Fin 7 × LimitRow)) :
    (s.setLimitRow r).takers = s.takers := by
  cases r <;> rfl

@[simp] theorem State.takers_setPrescaler (s : State) (p : Option (BitVec 16)) :
    (s.setPrescaler p).takers = s.takers := by
  cases p <;> rfl

theorem State.takers_runLimit (s : State) : s.runLimit.takers = s.takers := by
  unfold State.runLimit
  split <;> simp

theorem State.takers_runCondition (s : State) : s.runCondition.takers = s.takers := by
  unfold State.runCondition
  split
  · rfl
  · rfl

/-- Of the rows of GO, TAKER with ENABLE or HALT alone reaches a port (R74, R155). -/
theorem State.takers_runRow (s : State) {r : GoRow} (henable : r ≠ .takerEnable)
    (hhalt : r ≠ .takerHalt) : (s.runRow r).takers = s.takers := by
  cases r with
  | takerEnable => exact absurd rfl henable
  | takerHalt => exact absurd rfl hhalt
  | whileBusy => rfl
  | undefinedCommand => rfl
  | bind => exact s.takers_runBind
  | amend => exact s.takers_runAmend
  | retire => exact s.takers_runRetire
  | lookup => exact s.takers_runLookup
  | find => exact s.takers_runFind
  | sweep => exact s.takers_runSweep
  | postCommand => exact s.takers_runPostCommand
  | permit => exact s.takers_runPermit
  | takerNone => exact s.takers_runTakerNone
  | takerBadAction => rfl
  | start => exact s.takers_runStart
  | stop => exact s.takers_runStop
  | mode => exact s.takers_runMode
  | divisor => exact s.takers_runDivisor
  | stringBadAction => exact s.takers_runStringBadAction
  | limit => exact s.takers_runLimit
  | condition => exact s.takers_runCondition
  | resetDirectory => rfl

/-! ### The request strings -/

@[simp] theorem State.takers_updateString (s : State) (n : StringNo)
    (f : StringEngine → StringEngine) : (s.updateString n f).takers = s.takers := rfl

@[simp] theorem State.takers_lapseIfLevel (s : State) (e : EntryNo) :
    (s.lapseIfLevel e).takers = s.takers := by
  unfold State.lapseIfLevel
  split <;> simp

theorem State.takers_scanUnmarked (s : State) (active was : Bool) (e : EntryNo) :
    (s.scanUnmarked active was e).takers = s.takers := by
  unfold State.scanUnmarked
  split <;> split <;> simp

@[simp] theorem State.takers_scanSlotFinding (s : State) (n : StringNo) (k : SlotNo)
    (active was : Bool) : (s.scanSlotFinding n k active was).takers = s.takers := by
  unfold State.scanSlotFinding
  split
  · exact s.takers_scanUnmarked active was _
  · split
    · split <;> simp
    · split
      · simp
      · exact State.takers_foldl State.takers_lapseIfLevel _ s

theorem State.takers_scanSlot (s : State) (n : StringNo) (samples : BitVec 54) (k : SlotNo) :
    (s.scanSlot n samples k).takers = s.takers := by
  simp only [State.scanSlot]
  split <;> simp

theorem State.takers_faultedEnd (s : State) (n : StringNo) :
    (s.faultedEnd n).takers = s.takers := by
  simp only [State.faultedEnd]
  split <;> simp

theorem State.takers_endScan (s : State) (n : StringNo) (samples : BitVec 54) :
    (s.endScan n samples).takers = s.takers := by
  simp only [State.endScan, State.takers_updateString]
  split
  · exact s.takers_faultedEnd n
  · exact State.takers_foldl (fun s k => s.takers_scanSlot n samples k) _ s

theorem State.takers_rollCallMark (s : State) (n : StringNo) (k : SlotNo) (hist : BitVec 8)
    (samples : BitVec 27) (m : Mark) :
    (s.rollCallMark n k hist samples m).takers = s.takers := by
  unfold State.rollCallMark
  split
  · split <;> simp
  · split
    · split
      · split <;> simp
      · simp
    · simp

theorem State.takers_goodRollCall (s : State) (n : StringNo) (k : SlotNo) (samples : BitVec 27) :
    (s.goodRollCall n k samples).takers = s.takers := by
  have hfound : ∀ hist, ((List.finRange 8).foldl
      (fun s' m => s'.rollCallMark n k hist samples m) s).takers = s.takers :=
    fun hist => State.takers_foldl (fun s m => s.takers_rollCallMark n k hist samples m) _ s
  simp only [State.goodRollCall, State.takers_updateString]
  split <;> simp only [State.takers_report, hfound]

theorem State.takers_endRollCall (s : State) (n : StringNo) (k : SlotNo) (samples : BitVec 27) :
    (s.endRollCall n k samples).takers = s.takers := by
  simp only [State.endRollCall, State.takers_updateString]
  split
  · exact s.takers_faultedEnd n
  · exact s.takers_goodRollCall n k samples

/-! ### The part's own events -/

/-- An answer in which every port stands where it did in s. -/
def KeepsTakers (s : State) (o : Host.Outcome State Fault Refusal) : Prop :=
  ∀ s', o = .next s' → s'.takers = s.takers

theorem keepsTakers_next {s a : State} (h : a.takers = s.takers) : KeepsTakers s (.next a) := by
  intro s' hs'
  obtain rfl := Host.Outcome.next.inj hs'
  exact h

theorem keepsTakers_execSweepExamination (s : State) : KeepsTakers s (execSweepExamination s) := by
  unfold execSweepExamination
  split
  · refine keepsTakers_next ?_
    unfold State.examine
    split
    · rfl
    · split <;> rfl
  all_goals exact keepsTakers_next rfl

theorem keepsTakers_execClearingFree (s : State) : KeepsTakers s (execClearingFree s) := by
  unfold execClearingFree
  split
  · exact keepsTakers_next (s.takers_free _)
  all_goals exact keepsTakers_next rfl

theorem keepsTakers_execResetDirectoryCompletion (s : State) :
    KeepsTakers s (execResetDirectoryCompletion s) := by
  unfold execResetDirectoryCompletion
  split <;> exact keepsTakers_next rfl

theorem keepsTakers_execNextCycleChoice (n : StringNo) (s : State) :
    KeepsTakers s (execNextCycleChoice n s) := by
  unfold execNextCycleChoice
  split <;> exact keepsTakers_next rfl

theorem keepsTakers_execScanEnd (n : StringNo) (samples : BitVec 54) (s : State) :
    KeepsTakers s (execScanEnd n samples s) := by
  unfold execScanEnd
  split
  · exact keepsTakers_next (s.takers_endScan n samples)
  · exact keepsTakers_next rfl

theorem keepsTakers_execRollCallEnd (n : StringNo) (samples : BitVec 27) (s : State) :
    KeepsTakers s (execRollCallEnd n samples s) := by
  unfold execRollCallEnd
  split
  · exact keepsTakers_next (s.takers_endRollCall n _ samples)
  all_goals exact keepsTakers_next rfl

theorem keepsTakers_execWakeHold (n : StringNo) (s : State) : KeepsTakers s (execWakeHold n s) := by
  unfold execWakeHold
  split <;> exact keepsTakers_next rfl

theorem keepsTakers_execTick (s : State) : KeepsTakers s (execTick s) := by
  refine keepsTakers_next ?_
  split <;> rfl

theorem keepsTakers_execFirstExpiry (e : EntryNo) (s : State) :
    KeepsTakers s (execFirstExpiry e s) := by
  unfold execFirstExpiry
  split
  · exact keepsTakers_next rfl
  · split
    · refine keepsTakers_next ?_
      split <;> rfl
    · exact keepsTakers_next rfl

theorem State.takers_takeSecondExpiry (s : State) (e : EntryNo) (b : Entry) (v : Service)
    (l : RunningLimit) : (s.takeSecondExpiry e b v l).takers = s.takers := by
  unfold State.takeSecondExpiry
  split <;> simp

theorem keepsTakers_execSecondExpiry (e : EntryNo) (s : State) :
    KeepsTakers s (execSecondExpiry e s) := by
  unfold execSecondExpiry
  split
  · exact keepsTakers_next rfl
  · split
    · refine keepsTakers_next ?_
      split
      · rfl
      · exact s.takers_takeSecondExpiry e _ _ _
    · exact keepsTakers_next rfl

theorem keepsTakers_execResetnRelease (held : Nat) (s : State) :
    KeepsTakers s (execResetnRelease held s) := by
  unfold execResetnRelease
  split
  · split
    · intro s' hs'; cases hs'
    · exact keepsTakers_next rfl
  · exact keepsTakers_next rfl

/-! ### The management words beside GO -/

theorem State.takers_access (s : State) {f : State → State} (hf : (f s).takers = s.takers) :
    (s.access f).takers = s.takers := by
  unfold State.access
  split
  · rfl
  · exact hf

theorem keepsTakers_execCmdWrite (k : Fin 8) (v : Word) (s : State) :
    KeepsTakers s (execCmdWrite k v s) := by
  refine keepsTakers_next (s.takers_access ?_)
  unfold State.writeCmd
  split <;> rfl

theorem keepsTakers_execMctlWrite (v : Word) (s : State) : KeepsTakers s (execMctlWrite v s) :=
  keepsTakers_next (s.takers_access rfl)

theorem keepsTakers_execMstatRead (s : State) : KeepsTakers s (execMstatRead s) := by
  refine keepsTakers_next ?_
  split <;> rfl

end Sys2Proof.Machine
end

section
/-! PROOFS. What each command can do to a taker port, said once (R48 to R50, R56, R68, R70, R74). -/

namespace Sys2Proof.Claims

open Sys2Proof.Machine

/-! ### The writes to a taker window -/

theorem portAnswered_writeDone (s : State) (t : Taker) (v : Word) :
    ∃ a, PortAnswered s (s.writeDone t v) t a (fun p => { p with lastDone := v }) := by
  unfold State.writeDone
  split
  · exact ⟨_, portAnswered_recordDone rfl t v _⟩
  · exact ⟨_, portAnswered_recordDone (s.takers_doneEffect t _) t v _⟩

theorem portAnswered_recordYield {s u : State} (hu : u.takers = s.takers) (t : Taker) (v : Word)
    (a : Answer) : PortAnswered s (u.recordYield t v a) t a (fun p => { p with lastYield := v }) :=
  portAnswered_setPort hu t a fun p => { p with lastYield := v }

theorem portAnswered_writeYield (s : State) (t : Taker) (v : Word) :
    ∃ a, PortAnswered s (s.writeYield t v) t a (fun p => { p with lastYield := v }) := by
  unfold State.writeYield
  split
  · exact ⟨_, portAnswered_recordYield rfl t v _⟩
  · exact ⟨_, portAnswered_recordYield (s.takers_yieldEffect t _) t v _⟩

theorem portAnswered_recordPost {s u : State} (hu : u.takers = s.takers) (t : Taker) (v : Word)
    (a : Answer) : PortAnswered s (u.recordPost t v a) t a (fun p => { p with lastPost := v }) :=
  portAnswered_setPort hu t a fun p => { p with lastPost := v }

theorem portAnswered_writePost (s : State) (t : Taker) (v : Word) :
    ∃ a, PortAnswered s (s.writePost t v) t a (fun p => { p with lastPost := v }) := by
  unfold State.writePost
  split
  · exact ⟨_, portAnswered_recordPost rfl t v _⟩
  · exact ⟨_, portAnswered_recordPost (s.takers_postEffect t _) t v _⟩

theorem portAnswered_writeFloor (s : State) (t : Taker) (v : Word) :
    ∃ a k, PortAnswered s (s.writeFloor t v) t a (fun p => { p with floor := k }) := by
  unfold State.writeFloor
  split
  · exact ⟨.range, (s.port t).floor,
      portAnswered_setPort (u := s) rfl t .range fun p => { p with floor := (s.port t).floor }⟩
  · rename_i k _
    exact ⟨.ok, k, portAnswered_setPort (u := s) rfl t .ok fun p => { p with floor := k }⟩

theorem portAnswered_writeTreset (s : State) (t : Taker) (v : Word) :
    PortAnswered s (s.writeTreset t v) t .ok (fun p => { p with floor := 0, lastTreset := v }) := by
  refine portAnswered_setPort ?_ t .ok fun p => { p with floor := 0, lastTreset := v }
  split
  · rfl
  · exact s.takers_giveBackAll t

/-! ### The reads of CLAIM and PEEK -/

/-- The ports after reads: each as it was, but for the word it returned. -/
def PortsRead (s s' : State) : Prop := ∀ t, ∃ w, s'.port t = { s.port t with readData := w }

theorem portsRead_refl (s : State) : PortsRead s s := fun t => ⟨(s.port t).readData, rfl⟩

theorem portsRead_trans {s u s' : State} (h : PortsRead s u) (h' : PortsRead u s') :
    PortsRead s s' := by
  intro t
  obtain ⟨_, hu⟩ := h t
  obtain ⟨w, hs'⟩ := h' t
  exact ⟨w, by rw [hs', hu]⟩

theorem portsRead_returnRead {s u : State} (hu : u.takers = s.takers) (t : Taker) (w : Word) :
    PortsRead s (u.returnRead t w) := by
  intro t'
  have hport : u.port t' = s.port t' := by simp only [State.port, hu]
  rw [← hport, State.returnRead, State.port_setPort]
  split
  · subst_vars; exact ⟨_, rfl⟩
  · exact ⟨_, rfl⟩

theorem portsRead_claimOne (s : State) (t : Taker) : PortsRead s (s.claimOne t) := by
  refine portsRead_returnRead ?_ t _
  dsimp only
  split <;> simp

theorem portsRead_foldl {f : State → Taker → State} (hf : ∀ s t, PortsRead s (f s t))
    (l : List Taker) (s : State) : PortsRead s (l.foldl f s) := by
  induction l generalizing s with
  | nil => exact portsRead_refl s
  | cons t l ih => exact portsRead_trans (hf s t) (ih (f s t))

theorem portsRead_claimGroup (s : State) (group : TakerSet) : PortsRead s (s.claimGroup group) := by
  rw [claimGroup_eq]
  exact portsRead_foldl portsRead_claimOne _ s

theorem portsRead_claimInReset (s : State) (group : TakerSet) :
    PortsRead s (s.claimInReset group) := by
  refine portsRead_foldl (fun s t => ?_) _ s
  split
  · exact portsRead_returnRead rfl t _
  · exact portsRead_refl s

/-! ### The writes to GO -/

/-- Every write to GO is the write that slot and record make it, whatever its sender calls it. -/
theorem exec_of_isGoWrite {i : Instr} (h : isGoWrite i = true) (s : State) :
    exec i s = .next (s.access State.writeGo) := by
  cases i
  case undefinedCommand | bind | amend | retire | lookup | find | sweep | postCommand | permit
      | takerEnable | takerHalt | takerNone | takerBadAction | start | stop | mode | divisor
      | stringBadAction | limit | condition | resetDirectory | goWhileBusy =>
    exact congrArg Host.Outcome.next (s.goAs_runRow _)
  all_goals cases h

theorem port_setEnabled (s : State) (t t' : Taker) (on : Bool) :
    ∃ on', (s.setEnabled t on).port t' = { s.port t' with enabled := on' } := by
  rw [State.setEnabled, State.port_setPort]
  split
  · subst_vars; exact ⟨on, rfl⟩
  · exact ⟨(s.port t').enabled, rfl⟩

/-- A row of GO reaches at most the enable state of a port (R74). -/
theorem port_runRow (s : State) (r : GoRow) (t : Taker) :
    ∃ on, (s.runRow r).port t = { s.port t with enabled := on } := by
  by_cases henable : r = .takerEnable
  · subst henable
    change ∃ on, s.runTakerEnable.port t = _
    unfold State.runTakerEnable
    split
    · exact ⟨_, rfl⟩
    · exact port_setEnabled s _ t true
  · by_cases hhalt : r = .takerHalt
    · subst hhalt
      change ∃ on, s.runTakerHalt.port t = _
      unfold State.runTakerHalt
      split
      · exact ⟨_, rfl⟩
      · exact port_setEnabled s _ t false
    · exact ⟨(s.port t).enabled, by simp only [State.port, s.takers_runRow henable hhalt]⟩

/-! ### Every command -/

/-- What a command other than a reset can make of the port p of taker t. -/
inductive PortEffect (t : Taker) (p : TakerPort) : Instr → TakerPort → Prop
  | kept (i : Instr) : PortEffect t p i p
  | claim (group : TakerSet) (w : Option Word) : PortEffect t p (.claim group) { p with readData := w }
  | peek (w : Word) : PortEffect t p (.peek t) { p with readData := some w }
  | done (v : Word) (a : Answer) : PortEffect t p (.done t v) { p with answer := a, lastDone := v }
  | yield (v : Word) (a : Answer) : PortEffect t p (.yield t v) { p with answer := a, lastYield := v }
  | floor (v : Word) (a : Answer) (k : Level) :
      PortEffect t p (.floor t v) { p with answer := a, floor := k }
  | post (v : Word) (a : Answer) : PortEffect t p (.post t v) { p with answer := a, lastPost := v }
  | treset (v : Word) :
      PortEffect t p (.treset t v) { p with answer := .ok, floor := 0, lastTreset := v }
  | enable (i : Instr) (on : Bool) (hi : isGoWrite i = true) : PortEffect t p i { p with enabled := on }

/-- An answer in which every port is as command i can make it. -/
def PortsFollow (i : Instr) (s : State) (o : Host.Outcome State Fault Refusal) : Prop :=
  ∀ s', o = .next s' → ∀ t, PortEffect t (s.port t) i (s'.port t)

theorem portsFollow_next {i : Instr} {s a : State}
    (h : ∀ t, PortEffect t (s.port t) i (a.port t)) : PortsFollow i s (.next a) := by
  intro s' hs'
  obtain rfl := Host.Outcome.next.inj hs'
  exact h

theorem portsFollow_of_keepsTakers {i : Instr} {s : State}
    {o : Host.Outcome State Fault Refusal} (h : KeepsTakers s o) : PortsFollow i s o := by
  intro s' hs' t
  have hport : s'.port t = s.port t := by simp only [State.port, h s' hs']
  rw [hport]
  exact .kept i

/-- An access has the port effect of its write, or none while RESETn is asserted. -/
theorem portsFollow_access {i : Instr} {s : State} {f : State → State}
    (h : ∀ t, PortEffect t (s.port t) i ((f s).port t)) : PortsFollow i s (.next (s.access f)) := by
  refine portsFollow_next fun t => ?_
  unfold State.access
  split
  · exact .kept i
  · exact h t

/-- An answered write reaches the port of its taker alone. -/
theorem portsFollow_of_portAnswered {i : Instr} {s : State} {f : State → State} {t : Taker}
    {a : Answer} {word : TakerPort → TakerPort} (h : PortAnswered s (f s) t a word)
    (hi : PortEffect t (s.port t) i (word { s.port t with answer := a })) :
    PortsFollow i s (.next (s.access f)) := by
  refine portsFollow_access fun t' => ?_
  by_cases ht : t' = t
  · rw [ht, h.1]
    exact hi
  · rw [h.2 t' ht]
    exact .kept i

theorem portsFollow_execClaim (group : TakerSet) (s : State) :
    PortsFollow (.claim group) s (execClaim group s) := by
  have hread : PortsRead s (if s.inReset then s.claimInReset group else s.claimGroup group) := by
    split
    · exact portsRead_claimInReset s group
    · exact portsRead_claimGroup s group
  refine portsFollow_next fun t => ?_
  obtain ⟨w, hw⟩ := hread t
  rw [hw]
  exact .claim group w

theorem portsFollow_execPeek (u : Taker) (s : State) : PortsFollow (.peek u) s (execPeek u s) := by
  refine portsFollow_next fun t => ?_
  rw [State.returnRead, State.port_setPort]
  split
  · subst_vars; exact .peek _
  · exact .kept _

theorem portsFollow_exec_of_isGoWrite {i : Instr} (h : isGoWrite i = true) (s : State) :
    PortsFollow i s (exec i s) := by
  rw [exec_of_isGoWrite h]
  refine portsFollow_access fun t => ?_
  obtain ⟨on, hon⟩ := port_runRow s s.goRow t
  rw [State.writeGo, hon]
  exact .enable i on h

/-- A command other than a reset reaches a taker port as its row says, and no further. -/
theorem exec_portsFollow {i : Instr} (s : State) (hwf : i.wellFormed = true) (hon : i ≠ .powerOn)
    (hassert : i ≠ .resetnAssert) : PortsFollow i s (exec i s) := by
  by_cases hgo : isGoWrite i = true
  · exact portsFollow_exec_of_isGoWrite hgo s
  · cases i with
    | powerOn => exact absurd rfl hon
    | resetnAssert => exact absurd rfl hassert
    | claim group => exact portsFollow_execClaim group s
    | peek u => exact portsFollow_execPeek u s
    | done t v =>
      obtain ⟨a, ha⟩ := portAnswered_writeDone s t v
      exact portsFollow_of_portAnswered ha (.done v a)
    | yield t v =>
      obtain ⟨a, ha⟩ := portAnswered_writeYield s t v
      exact portsFollow_of_portAnswered ha (.yield v a)
    | floor t v =>
      obtain ⟨a, k, ha⟩ := portAnswered_writeFloor s t v
      exact portsFollow_of_portAnswered ha (.floor v a k)
    | post t v =>
      obtain ⟨a, ha⟩ := portAnswered_writePost s t v
      exact portsFollow_of_portAnswered ha (.post v a)
    | treset t v => exact portsFollow_of_portAnswered (portAnswered_writeTreset s t v) (.treset v)
    | ignoredWrite a v =>
      have hignored : (wordAt a).takesWrite = false := by simpa [Instr.wellFormed] using hwf
      refine portsFollow_access fun t => ?_
      rw [hignored]
      exact .kept _
    | cmdWrite k v => exact portsFollow_of_keepsTakers (keepsTakers_execCmdWrite k v s)
    | mstatRead => exact portsFollow_of_keepsTakers (keepsTakers_execMstatRead s)
    | mctlWrite v => exact portsFollow_of_keepsTakers (keepsTakers_execMctlWrite v s)
    | sweepExamination => exact portsFollow_of_keepsTakers (keepsTakers_execSweepExamination s)
    | clearingFree => exact portsFollow_of_keepsTakers (keepsTakers_execClearingFree s)
    | resetDirectoryCompletion =>
      exact portsFollow_of_keepsTakers (keepsTakers_execResetDirectoryCompletion s)
    | nextCycleChoice n => exact portsFollow_of_keepsTakers (keepsTakers_execNextCycleChoice n s)
    | scanEnd n samples => exact portsFollow_of_keepsTakers (keepsTakers_execScanEnd n samples s)
    | rollCallEnd n samples =>
      exact portsFollow_of_keepsTakers (keepsTakers_execRollCallEnd n samples s)
    | wakeHold n => exact portsFollow_of_keepsTakers (keepsTakers_execWakeHold n s)
    | tick => exact portsFollow_of_keepsTakers (keepsTakers_execTick s)
    | firstExpiry e => exact portsFollow_of_keepsTakers (keepsTakers_execFirstExpiry e s)
    | secondExpiry e => exact portsFollow_of_keepsTakers (keepsTakers_execSecondExpiry e s)
    | resetnRelease held => exact portsFollow_of_keepsTakers (keepsTakers_execResetnRelease held s)
    | _ => exact absurd rfl hgo

end Sys2Proof.Claims
end

section
/-! PROOFS. The floor: its own writes, its read, and what leaves it alone (O18). -/

namespace Sys2Proof.Claims

open Sys2Proof.Machine Sys2Proof.Machine.Bits

/-! ### The word FLOOR -/

theorem floorField_of_level {v : Word} {k : Level} (h : low8 v = k.val) : floorField v = some k := by
  have hget : get v 0 8 = k.val := h
  rw [floorField, if_pos (hget ▸ k.isLt), hget, Fin.ofNat_val_eq_self]

theorem floorField_of_greater {v : Word} (h : 15 < low8 v) : floorField v = none :=
  if_neg (Nat.not_lt.mpr h)

theorem exec_floor_of_released {s : State} (hr : s.inReset = false) (t : Taker) (v : Word) :
    exec (.floor t v) s = .next (s.writeFloor t v) :=
  congrArg Host.Outcome.next (s.access_run _ hr)

theorem exec_treset_of_released {s : State} (hr : s.inReset = false) (t : Taker) (v : Word) :
    exec (.treset t v) s = .next (s.writeTreset t v) :=
  congrArg Host.Outcome.next (s.access_run _ hr)

/-- FLOOR stands at offset 10H of each taker window (10.1). -/
theorem wordAt_floor (t : Taker) : wordAt (BitVec.ofNat 7 (16 * t.val + 4)) = .taker t .floor := by
  revert t; decide

theorem readWord_floor {s : State} (hr : s.inReset = false) (t : Taker) :
    s.readWord (BitVec.ofNat 7 (16 * t.val + 4)) = put 0 (s.port t).floor.val := by
  rw [State.readWord, hr, wordAt_floor]
  rfl

/-! ### What leaves the floor alone -/

/-- Of what a command can make of a port, FLOOR and TRESET alone concern the floor. -/
theorem floor_of_portEffect {t : Taker} {p p' : TakerPort} {i : Instr} (h : PortEffect t p i p')
    (hfloor : ∀ v, i ≠ .floor t v) (htreset : ∀ v, i ≠ .treset t v) : p'.floor = p.floor := by
  cases h with
  | floor v a k => exact absurd rfl (hfloor v)
  | treset v => exact absurd rfl (htreset v)
  | _ => rfl

/-- Settles O18: the writes and the read by the word of 10.3, the resets by their values, and every other
command by what it can make of a port. -/
theorem floorChangesByItsOwnWrites : Obligations.FloorChangesByItsOwnWrites := by
  refine ⟨fun s t v hr => ⟨?inRange, ?outOfRange, ?read⟩, ?treset, ?reset, ?others⟩
  case inRange =>
    intro k hk
    rw [exec_floor_of_released hr, State.writeFloor, floorField_of_level hk]
  case outOfRange =>
    intro hv
    rw [exec_floor_of_released hr, State.writeFloor, floorField_of_greater hv]
  case read =>
    have hlt : (s.port t).floor.val < 2 ^ 32 := (s.port t).floor.isLt.trans (by decide)
    rw [readWord_floor hr, put, BitVec.shiftLeft_zero, BitVec.toNat_ofNat, Nat.mod_eq_of_lt hlt]
  case treset =>
    intro s s' t v hr hs'
    rw [exec_treset_of_released hr] at hs'
    obtain rfl := Host.Outcome.next.inj hs'
    rw [(portAnswered_writeTreset s t v).1]
  case reset =>
    intro s s' t hs'
    obtain rfl := eq_held_of_exec_reset hs'
    simp [State.held, State.reset, State.port, TakerPort.reset]
  case others =>
    intro i s s' t hwf hfloor htreset hon hassert hs'
    exact floor_of_portEffect (exec_portsFollow s hwf hon hassert s' hs' t) hfloor htreset

end Sys2Proof.Claims
end

section
/-! PROOFS. The entry a key names: none where no entry holds the key, and the entry that alone holds it (R7). -/

namespace Sys2Proof.Machine

theorem State.findKey_eq_none {s : State} {key : Key} :
    s.findKey key = none ↔ ∀ e, s.hasKey key e = false := by
  simp [State.findKey, allEntries]

theorem State.hasKey_of_findKey {s : State} {key : Key} {e : EntryNo} (h : s.findKey key = some e) :
    s.hasKey key e = true :=
  List.find?_some h

theorem State.findKey_of_unique {s : State} {key : Key} {e : EntryNo}
    (h : ∀ e', s.hasKey key e' = true ↔ e' = e) : s.findKey key = some e := by
  cases hfound : s.findKey key with
  | none =>
    have hnot : s.hasKey key e = false := State.findKey_eq_none.mp hfound e
    rw [(h e).mpr rfl] at hnot
    cases hnot
  | some e' => rw [(h e').mp (State.hasKey_of_findKey hfound)]

end Sys2Proof.Machine
end

section
/-! PROOFS. The POST of a taker window: the mask, then the binding (O19). -/

namespace Sys2Proof.Claims

open Sys2Proof.Machine Sys2Proof.Machine.Bits

/-! ### The word POST -/

theorem channelField_of_channel {v : Word} {c : Channel} (h : low8 v = c.val) :
    channelField v = some c := by
  have hget : get v 0 8 = c.val := h
  rw [channelField, if_pos (hget ▸ c.isLt), hget, Fin.ofNat_val_eq_self]

theorem channelField_of_greater {v : Word} (h : 15 < low8 v) : channelField v = none :=
  if_neg (Nat.not_lt.mpr h)

theorem exec_post_of_released {s : State} (hr : s.inReset = false) (t : Taker) (v : Word) :
    exec (.post t v) s = .next (s.writePost t v) :=
  congrArg Host.Outcome.next (s.access_run _ hr)

/-- A channel above 15 never reaches the table (R69). -/
theorem writePost_of_greater {s : State} {t : Taker} {v : Word} (h : 15 < low8 v) :
    s.writePost t v = s.recordPost t v .range := by
  rw [State.writePost, channelField_of_greater h]

theorem writePost_of_channel {s : State} {t : Taker} {v : Word} {c : Channel} (h : low8 v = c.val) :
    s.writePost t v = (s.postEffect t c).recordPost t v (s.postAnswer t c) := by
  rw [State.writePost, channelField_of_channel h]

/-! ### The cases of R136, each with its answer and its effect -/

theorem post_of_masked {s : State} {t : Taker} {c : Channel}
    (hmask : (s.masks[c]).getLsbD t.val = false) :
    s.postAnswer t c = .denied ∧ s.postEffect t c = s.report .denied (.takerChannel t c) := by
  simp only [State.postAnswer, State.postEffect, hmask, Bool.not_false, if_true, and_self]

/-- Past the mask, the binding decides. -/
theorem postEffect_of_permitted {s : State} {t : Taker} {c : Channel}
    (hmask : (s.masks[c]).getLsbD t.val = true) : s.postEffect t c = s.deliverPost c := by
  simp only [State.postEffect, hmask, Bool.not_true, Bool.false_eq_true, if_false]

theorem post_of_unbound {s : State} {t : Taker} {c : Channel}
    (hmask : (s.masks[c]).getLsbD t.val = true) (hkey : s.findKey (.posted c) = none) :
    s.postAnswer t c = .noChannel ∧ s.postEffect t c = s.report .stray (.channel c) := by
  rw [postEffect_of_permitted hmask, State.postAnswer, State.deliverPost, hmask, hkey]
  exact ⟨rfl, rfl⟩

theorem post_of_bound {s : State} {t : Taker} {c : Channel} {e : EntryNo}
    (hmask : (s.masks[c]).getLsbD t.val = true) (hkey : s.findKey (.posted c) = some e) :
    s.postAnswer t c = .ok ∧ s.postEffect t c = s.occurrence e := by
  rw [postEffect_of_permitted hmask, State.postAnswer, State.deliverPost, hmask, hkey]
  exact ⟨rfl, rfl⟩

/-- Settles O19: the word names a channel or none, and the three cases of R136 give a channel's answer and
effect. -/
theorem postIsDecidedByMaskThenBinding : Obligations.PostIsDecidedByMaskThenBinding := by
  intro s t v hr
  rw [exec_post_of_released hr]
  by_cases hv : 15 < low8 v
  · rw [writePost_of_greater hv]
    refine ⟨_, .range, rfl, portAnswered_recordPost rfl t v .range, fun _ => ⟨rfl, rfl⟩, ?_⟩
    intro c hc
    exact absurd c.isLt (by omega)
  · obtain ⟨c, hc⟩ : ∃ c : Channel, low8 v = c.val := ⟨⟨low8 v, by omega⟩, rfl⟩
    rw [writePost_of_channel hc]
    refine ⟨_, s.postAnswer t c, rfl, portAnswered_recordPost (s.takers_postEffect t c) t v _,
      fun h => absurd h hv, fun c' hc' => ?_⟩
    obtain rfl : c = c' := Fin.ext (hc.symm.trans hc')
    refine ⟨?masked, ?unbound, ?bound⟩
    case masked =>
      intro hmask
      obtain ⟨ha, heffect⟩ := post_of_masked hmask
      rw [ha, heffect]
      exact ⟨rfl, rfl, reportedOnce_report s .denied (.takerChannel t c)⟩
    case unbound =>
      intro hmask hkey
      obtain ⟨ha, heffect⟩ := post_of_unbound hmask (State.findKey_eq_none.mpr hkey)
      rw [ha, heffect]
      exact ⟨rfl, rfl, reportedOnce_report s .stray (.channel c)⟩
    case bound =>
      intro hmask e hkey
      obtain ⟨ha, heffect⟩ := post_of_bound hmask (State.findKey_of_unique hkey)
      rw [ha, heffect]
      exact ⟨rfl, rfl⟩

end Sys2Proof.Claims
end

section
/-! PROOFS. The management port while the command slot is BUSY and while it is IDLE (O22): a write to GO or to
the command area is a collision in the one and is taken in the other (R146, R148). -/

namespace Sys2Proof.Claims

open Sys2Proof.Machine

/-! ### What the slot says of the command in flight -/

theorem busy_of_idle {s : State} (h : s.slot = .idle) : s.busy = false := by
  rw [State.busy, h]

theorem commandShown_of_sweep {s : State} {r : SweepRun} (h : s.slot = .sweep r) :
    s.commandShown = 6#4 := by
  rw [State.commandShown, h]

theorem commandShown_of_resetDirectory {s : State} {n : Nat} (h : s.slot = .resetDirectory n) :
    s.commandShown = 13#4 := by
  rw [State.commandShown, h]

/-! ### A collision (R148) -/

theorem collide_frame (s : State) : s.collide = { s with conditions := s.collide.conditions } := rfl

theorem reportedOnce_collide {s : State} {c : CommandCode} (h : s.commandShown = c) :
    ReportedOnce s s.collide .collision (.command c) := by
  subst h
  exact reportedOnce_report s .collision (.command s.commandShown)

/-! ### A write to GO -/

theorem exec_goWrite_of_released {i : Instr} (h : isGoWrite i = true) {s : State}
    (hr : s.inReset = false) : exec i s = .next s.writeGo := by
  rw [exec_of_isGoWrite h, s.access_run _ hr]

theorem writeGo_of_busy {s : State} (h : s.busy = true) : s.writeGo = s.collide := by
  rw [State.writeGo, s.goRow_busy h]
  rfl

theorem writeGo_of_idle {s : State} (h : s.slot = .idle) : s.writeGo = s.runRow (recordRow s) := by
  rw [State.writeGo, s.goRow_idle (busy_of_idle h)]

/-! ### A write to the command area -/

theorem exec_cmdWrite_of_released {s : State} (hr : s.inReset = false) (k : Fin 8) (v : Word) :
    exec (.cmdWrite k v) s = .next (s.writeCmd k v) :=
  congrArg Host.Outcome.next (s.access_run _ hr)

theorem writeCmd_of_busy {s : State} (h : s.busy = true) (k : Fin 8) (v : Word) :
    s.writeCmd k v = s.collide := by
  rw [State.writeCmd, if_pos h]

theorem writeCmd_of_idle {s : State} (h : s.slot = .idle) (k : Fin 8) (v : Word) :
    s.writeCmd k v = { s with cmd := s.cmd.set k.val v k.isLt } := by
  rw [State.writeCmd, busy_of_idle h, if_neg Bool.false_ne_true]

/-! ### The two writes while BUSY and while IDLE -/

/-- While BUSY the two kinds of write have one effect, the collision. -/
theorem exec_of_busy {s : State} {i : Instr} (hr : s.inReset = false) (hbusy : s.busy = true)
    (hwrite : isGoWrite i = true ∨ ∃ k v, i = .cmdWrite k v) : exec i s = .next s.collide := by
  rcases hwrite with hgo | ⟨k, v, rfl⟩
  · rw [exec_goWrite_of_released hgo hr, writeGo_of_busy hbusy]
  · rw [exec_cmdWrite_of_released hr, writeCmd_of_busy hbusy]

/-- Settles O22: while BUSY the write is the collision, whose culprit is the command the slot shows; while IDLE
a CMD word is stored and GO runs the row of the record. -/
theorem writesWhileBusyCollide : Obligations.WritesWhileBusyCollide := by
  refine ⟨?busy, ?idleCmd, ?idleGo⟩
  case busy =>
    intro s i hr hbusy hwrite
    exact ⟨s.collide, exec_of_busy hr hbusy hwrite, collide_frame s,
      fun _ hslot => reportedOnce_collide (commandShown_of_sweep hslot),
      fun _ hslot => reportedOnce_collide (commandShown_of_resetDirectory hslot)⟩
  case idleCmd =>
    intro s k v hr hslot
    rw [exec_cmdWrite_of_released hr, writeCmd_of_idle hslot]
  case idleGo =>
    intro s i hr hslot hgo
    rw [exec_goWrite_of_released hgo hr, writeGo_of_idle hslot]

end Sys2Proof.Claims
end

section
/-! PROOFS. The condition table and MALERT: the report (O25) and the two causes of the management alert (O24). -/

namespace Sys2Proof.Machine

/-! ### The rows of the condition table (R164) -/

/-- The table has no line without a row of R164. -/
theorem CondRow.ix_surj (k : Fin 9) : ∃ r : CondRow, r.ix = k := by
  fin_cases k
  · exact ⟨.stray, rfl⟩
  · exact ⟨.silent, rfl⟩
  · exact ⟨.stringFault, rfl⟩
  · exact ⟨.overdue, rfl⟩
  · exact ⟨.withdrawn, rfl⟩
  · exact ⟨.late, rfl⟩
  · exact ⟨.protocol, rfl⟩
  · exact ⟨.denied, rfl⟩
  · exact ⟨.collision, rfl⟩

theorem State.mem_conditions_iff {s : State} {c : Condition} :
    c ∈ s.conditions ↔ ∃ r, s.cond r = c := by
  constructor
  · intro hc
    obtain ⟨i, hi, hget⟩ := Vector.getElem_of_mem hc
    obtain ⟨r, hr⟩ := CondRow.ix_surj ⟨i, hi⟩
    exact ⟨r, by simpa only [State.cond, hr, Fin.getElem_fin] using hget⟩
  · rintro ⟨r, rfl⟩
    exact Vector.getElem_mem r.ix.isLt

/-! ### What raises MALERT -/

theorem State.doneRequest_iff {s : State} :
    s.doneRequest = true ↔ s.doneFlag = true ∧ s.doneEnable = true :=
  Bool.and_eq_true_iff

/-- The scan of the table finds exactly the rows that are latched with their alert enabled. -/
theorem State.conditions_any_iff {s : State} :
    s.conditions.toList.any (fun c => c.latched && c.enabled) = true ↔
      ∃ r, (s.cond r).latched = true ∧ (s.cond r).enabled = true := by
  simp only [List.any_eq_true, Bool.and_eq_true, Vector.mem_toList_iff, State.mem_conditions_iff]
  constructor
  · rintro ⟨_, ⟨r, rfl⟩, hraised⟩
    exact ⟨r, hraised⟩
  · rintro ⟨r, hraised⟩
    exact ⟨s.cond r, ⟨r, rfl⟩, hraised⟩

/-! ### What a report writes -/

theorem State.report_frame (s : State) (r : CondRow) (w : Culprit) :
    s.report r w = { s with conditions := (s.report r w).conditions } := rfl

end Sys2Proof.Machine

namespace Sys2Proof.Claims

open Sys2Proof.Machine

/-- Settles O24: the alert is the scan of the condition table or the done request, each by its own lemma. -/
theorem managementAlertHasTwoCauses : Obligations.ManagementAlertHasTwoCauses := by
  intro s
  rw [State.malert, Bool.or_eq_true, State.conditions_any_iff, State.doneRequest_iff]

/-- Settles O25: the report writes the condition table alone, and there its row as R165 says. -/
theorem reportKeepsTheFirstCulprit : Obligations.ReportKeepsTheFirstCulprit :=
  fun s r w => ⟨s.report_frame r w, reportedOnce_report s r w⟩

end Sys2Proof.Claims
end

section
/-! PROOFS. What an occurrence and a lapse leave in the directory (O20), and the keys of the entries, which
neither of them changes. -/

namespace Sys2Proof.Claims

open Sys2Proof.Machine

/-! ### The record after an occurrence or a lapse -/

theorem bumpHits_eq (h : BitVec 16) : bumpHits h = BitVec.ofNat 16 (min 65535 (h.toNat + 1)) := by
  unfold bumpHits
  split
  · subst_vars; rfl
  · apply BitVec.eq_of_toNat_eq
    rw [BitVec.toNat_ofNat]
    bv_omega

/-- Outside clearing an occurrence makes of its entry what the table of R10 says. -/
theorem entry_occurrence {s : State} (hc : s.clearing = false) (e e' : EntryNo) :
    (s.occurrence e).entry e' =
      if e' = e then (s.entry e).map afterOccurrence else s.entry e' := by
  by_cases h : e' = e
  · subst h
    rw [if_pos rfl]
    cases hb : s.entry e' with
    | none => simp [State.occurrence, hc, hb]
    | some b =>
      cases hp : b.phase <;>
        simp [State.occurrence, hc, hb, hp, State.pushTail, afterOccurrence, bumpHits_eq]
  · rw [if_neg h, s.occurrence_other e e' (Ne.symm h)]

/-- Outside clearing a lapse makes of its entry what the table of R11 says. -/
theorem entry_lapse {s : State} (hc : s.clearing = false) (e e' : EntryNo) :
    (s.lapse e).entry e' = if e' = e then (s.entry e).map afterLapse else s.entry e' := by
  by_cases h : e' = e
  · subst h
    rw [if_pos rfl]
    cases hb : s.entry e' with
    | none => simp [State.lapse, hc, hb]
    | some b => cases hp : b.phase <;> simp [State.lapse, hc, hb, hp, afterLapse]
  · rw [if_neg h, s.lapse_other e e' (Ne.symm h)]

/-! ### The queues after an occurrence or a lapse -/

theorem queue_pushTail {s : State} {k : Level} (hk : k ≠ 0) (e : EntryNo) (k' : Level) :
    (s.pushTail k e).queue k' = if k' = k then s.queue k ++ [e] else s.queue k' := by
  rw [State.pushTail, State.queue_setQueue, if_neg (Fin.val_ne_zero_iff.mpr hk)]
  simp only [eq_comm]

theorem queue_pushHead {s : State} {k : Level} (hk : k ≠ 0) (e : EntryNo) (k' : Level) :
    (s.pushHead k e).queue k' = if k' = k then e :: s.queue k else s.queue k' := by
  rw [State.pushHead, State.queue_setQueue, if_neg (Fin.val_ne_zero_iff.mpr hk)]
  simp only [eq_comm]

/-- The queue that does not exist is empty, so dropping an entry from it needs no exception. -/
theorem queue_dropQueue (s : State) (k : Level) (e : EntryNo) (k' : Level) :
    (s.dropQueue k e).queue k' = if k' = k then (s.queue k).erase e else s.queue k' := by
  rw [State.dropQueue, State.queue_setQueue]
  by_cases h : k' = k
  · subst h
    by_cases h0 : k'.val = 0 <;> simp [State.queue, h0]
  · rw [if_neg (Ne.symm h), if_neg h]

theorem queue_occurrence {s : State} (hc : s.clearing = false) {e : EntryNo} {b : Entry}
    (hb : s.entry e = some b) (hk : b.level ≠ 0) (k : Level) :
    (s.occurrence e).queue k =
      if b.phase = .armed ∧ k = b.level then s.queue k ++ [e] else s.queue k := by
  cases hp : b.phase with
  | armed =>
    rw [s.occurrence_armed e b hc hb hp, queue_pushTail hk]
    by_cases h : k = b.level <;> simp [h]
  | dormant => simp [s.occurrence_dormant e b hb hp]
  | raised => simp [s.occurrence_raised e b hc hb hp]
  | held v => simp [s.occurrence_held e b v hc hb hp]
  | retiring v => simp [s.occurrence_retiring e b v hb hp]

theorem queue_lapse {s : State} (hc : s.clearing = false) {e : EntryNo} {b : Entry}
    (hb : s.entry e = some b) (k : Level) :
    (s.lapse e).queue k =
      if b.phase = .raised ∧ k = b.level then (s.queue k).erase e else s.queue k := by
  cases hp : b.phase with
  | raised =>
    rw [s.lapse_raised e b hc hb hp, State.queue_setEntry, queue_dropQueue]
    by_cases h : k = b.level <;> simp [h]
  | held v => simp [s.lapse_held e b v hc hb hp]
  | dormant => simp [State.lapse, hb, hp]
  | armed => simp [State.lapse, hb, hp]
  | retiring v => simp [State.lapse, hb, hp]

/-- Settles O20: the frames of the two operations, and the entry and the queue each of them touches. -/
theorem occurrenceAndLapseActByState : Obligations.OccurrenceAndLapseActByState := by
  intro s e b hb hk
  refine ⟨fun hc => ⟨s.occurrence_clearing e hc, s.lapse_clearing e hc⟩, fun hc => ?_⟩
  refine ⟨s.occurrence_frame e, fun e' => ?_, queue_occurrence hc hb hk, s.lapse_frame e,
    fun e' => ?_, queue_lapse hc hb⟩
  · rw [entry_occurrence hc, hb]; rfl
  · rw [entry_lapse hc, hb]; rfl

/-! ### Keys -/

theorem key_afterOccurrence (b : Entry) : (afterOccurrence b).key = b.key := by
  unfold afterOccurrence
  cases b.phase <;> rfl

theorem key_afterLapse (b : Entry) : (afterLapse b).key = b.key := by
  unfold afterLapse
  cases b.phase <;> rfl

end Sys2Proof.Claims

namespace Sys2Proof.Machine

open Sys2Proof.Claims

/-- The key of an entry; none where it is FREE. -/
def State.keyOf (s : State) (e : EntryNo) : Option Key := (s.entry e).map Entry.key

/-- Every entry has the key it had, and no entry was bound or freed. -/
def SameKeys (s s' : State) : Prop := ∀ e, s'.keyOf e = s.keyOf e

theorem State.hasKey_eq (s : State) (key : Key) (e : EntryNo) :
    s.hasKey key e = decide (s.keyOf e = some key) := by
  unfold State.hasKey State.keyOf
  cases s.entry e with
  | none => rfl
  | some b => simp [beq_eq_decide]

theorem State.hasKey_iff {s : State} {key : Key} {e : EntryNo} :
    s.hasKey key e = true ↔ ∃ b, s.entry e = some b ∧ b.key = key := by
  rw [State.hasKey_eq, decide_eq_true_iff, State.keyOf, Option.map_eq_some_iff]

theorem State.namesMarked_iff {s : State} {n : StringNo} {k : SlotNo} {e : EntryNo} :
    s.namesMarked n k e = true ↔ ∃ m, s.keyOf e = some (.wire n k (some m)) := by
  unfold State.namesMarked State.keyOf
  cases s.entry e with
  | none => simp
  | some b => cases hk : b.key with
    | posted c => simp [hk]
    | wire n' k' m => cases m <;> simp [hk]

theorem SameKeys.refl (s : State) : SameKeys s s := fun _ => rfl

theorem SameKeys.trans {s u s' : State} (h : SameKeys s u) (h' : SameKeys u s') : SameKeys s s' :=
  fun e => (h' e).trans (h e)

theorem SameKeys.of_entries {s s' : State} (h : s'.entries = s.entries) : SameKeys s s' := by
  intro e
  simp only [State.keyOf, State.entry, h]

theorem SameKeys.hasKey {s s' : State} (h : SameKeys s s') : s'.hasKey = s.hasKey := by
  funext key e
  rw [State.hasKey_eq, State.hasKey_eq, h]

theorem SameKeys.findKey {s s' : State} (h : SameKeys s s') (key : Key) :
    s'.findKey key = s.findKey key := by
  rw [State.findKey, State.findKey, h.hasKey]

theorem SameKeys.markedAt {s s' : State} (h : SameKeys s s') (n : StringNo) (k : SlotNo) :
    s'.markedAt n k = s.markedAt n k := by
  have hnames : s'.namesMarked n k = s.namesMarked n k := by
    funext e
    rw [Bool.eq_iff_iff, State.namesMarked_iff, State.namesMarked_iff, h]
  rw [State.markedAt, State.markedAt, hnames]

theorem sameKeys_occurrence (s : State) (e : EntryNo) : SameKeys s (s.occurrence e) := by
  cases hc : s.clearing with
  | true => rw [s.occurrence_clearing e hc]; exact .refl s
  | false =>
    intro e'
    rw [State.keyOf, entry_occurrence hc]
    split
    · subst_vars
      rw [Option.map_map, State.keyOf]
      exact congrArg (Option.map · _) (funext key_afterOccurrence)
    · rfl

theorem sameKeys_lapse (s : State) (e : EntryNo) : SameKeys s (s.lapse e) := by
  cases hc : s.clearing with
  | true => rw [s.lapse_clearing e hc]; exact .refl s
  | false =>
    intro e'
    rw [State.keyOf, entry_lapse hc]
    split
    · subst_vars
      rw [Option.map_map, State.keyOf]
      exact congrArg (Option.map · _) (funext key_afterLapse)
    · rfl

theorem SameKeys.foldl {α : Type} {f : State → α → State} (hf : ∀ s a, SameKeys s (f s a))
    (l : List α) (s : State) : SameKeys s (l.foldl f s) := by
  induction l generalizing s with
  | nil => exact .refl s
  | cons a l ih => exact (hf s a).trans (ih (f s a))

end Sys2Proof.Machine
end

section
/-! PROOFS. A good scan seen as two things at once: its findings in the directory and the condition table, and
what it makes of its string's engine (R111 to R117). The findings neither read nor write an engine. -/

namespace Sys2Proof.Machine

/-! ### Operations that leave the string engines out of account -/

/-- The state with other string engines. -/
def State.withStrings (s : State) (v : Vector StringEngine 3) : State := { s with strings := v }

theorem State.updateString_eq (s : State) (n : StringNo) (f : StringEngine → StringEngine) :
    s.updateString n f = s.withStrings (s.strings.set n.val (f (s.string n)) n.isLt) := rfl

@[simp] theorem State.string_updateString_same (s : State) (n : StringNo)
    (f : StringEngine → StringEngine) : (s.updateString n f).string n = f (s.string n) :=
  s.string_setString_same n _

theorem State.updateString_updateString (s : State) (n : StringNo)
    (f f' : StringEngine → StringEngine) :
    (s.updateString n f).updateString n f' = s.updateString n fun g => f' (f g) := by
  simp [State.updateString, State.setString, State.string]

@[simp] theorem State.updateString_id (s : State) (n : StringNo) :
    (s.updateString n fun g => g) = s := by
  simp [State.updateString, State.setString, State.string]

theorem State.setQueue_withStrings (s : State) (v : Vector StringEngine 3) (k : Level)
    (q : List EntryNo) : (s.withStrings v).setQueue k q = (s.setQueue k q).withStrings v := by
  unfold State.setQueue
  split <;> rfl

@[simp] theorem State.clearing_withStrings (s : State) (v : Vector StringEngine 3) :
    (s.withStrings v).clearing = s.clearing := rfl

@[simp] theorem State.entry_withStrings (s : State) (v : Vector StringEngine 3) (e : EntryNo) :
    (s.withStrings v).entry e = s.entry e := rfl

@[simp] theorem State.setEntry_withStrings (s : State) (v : Vector StringEngine 3) (e : EntryNo)
    (o : Option Entry) : (s.withStrings v).setEntry e o = (s.setEntry e o).withStrings v := rfl

@[simp] theorem State.pushTail_withStrings (s : State) (v : Vector StringEngine 3) (k : Level)
    (e : EntryNo) : (s.withStrings v).pushTail k e = (s.pushTail k e).withStrings v :=
  s.setQueue_withStrings v k _

@[simp] theorem State.dropQueue_withStrings (s : State) (v : Vector StringEngine 3) (k : Level)
    (e : EntryNo) : (s.withStrings v).dropQueue k e = (s.dropQueue k e).withStrings v :=
  s.setQueue_withStrings v k _

@[simp] theorem State.occurrence_withStrings (s : State) (v : Vector StringEngine 3) (e : EntryNo) :
    (s.withStrings v).occurrence e = (s.occurrence e).withStrings v := by
  unfold State.occurrence
  cases hc : s.clearing with
  | true => simp [hc]
  | false =>
    cases hb : s.entry e with
    | none => simp [hc, hb]
    | some b => cases hp : b.phase <;> simp [hc, hb, hp]

@[simp] theorem State.lapse_withStrings (s : State) (v : Vector StringEngine 3) (e : EntryNo) :
    (s.withStrings v).lapse e = (s.lapse e).withStrings v := by
  unfold State.lapse
  cases hc : s.clearing with
  | true => simp [hc]
  | false =>
    cases hb : s.entry e with
    | none => simp [hc, hb]
    | some b => cases hp : b.phase <;> simp [hc, hb, hp]

theorem State.senseAt_withStrings (s : State) (v : Vector StringEngine 3) (e : EntryNo) :
    (s.withStrings v).senseAt e = s.senseAt e := rfl

theorem State.lapseIfLevel_withStrings (s : State) (v : Vector StringEngine 3) (e : EntryNo) :
    (s.withStrings v).lapseIfLevel e = (s.lapseIfLevel e).withStrings v := by
  unfold State.lapseIfLevel
  cases hs : s.senseAt e <;> simp [s.senseAt_withStrings, hs]

theorem State.scanUnmarked_withStrings (s : State) (v : Vector StringEngine 3) (active was : Bool)
    (e : EntryNo) :
    (s.withStrings v).scanUnmarked active was e = (s.scanUnmarked active was e).withStrings v := by
  unfold State.scanUnmarked
  cases hs : s.senseAt e with
  | edge => cases active && !was <;> simp [s.senseAt_withStrings, hs]
  | level => cases active <;> simp [s.senseAt_withStrings, hs]

theorem State.foldl_withStrings {α : Type} {f : State → α → State}
    (hf : ∀ s v a, f (s.withStrings v) a = (f s a).withStrings v) (l : List α) (s : State)
    (v : Vector StringEngine 3) : l.foldl f (s.withStrings v) = (l.foldl f s).withStrings v := by
  induction l generalizing s with
  | nil => rfl
  | cons a l ih => rw [List.foldl_cons, List.foldl_cons, hf, ih]

/-- The findings of slot k in the directory and the condition table. -/
def State.scanFinding (s : State) (n : StringNo) (k : SlotNo) (active was : Bool) : State :=
  match s.findKey (.wire n k none) with
  | some e => s.scanUnmarked active was e
  | none =>
    match s.markedAt n k with
    | [] => if active && !was then s.report .stray (.slot n k) else s
    | e :: es => if active then s else (e :: es).foldl State.lapseIfLevel s

theorem State.scanFinding_withStrings (n : StringNo) (k : SlotNo) (active was : Bool) (s : State)
    (v : Vector StringEngine 3) :
    (s.withStrings v).scanFinding n k active was = (s.scanFinding n k active was).withStrings v := by
  have hkey : (s.withStrings v).findKey (.wire n k none) = s.findKey (.wire n k none) := rfl
  have hmarked : (s.withStrings v).markedAt n k = s.markedAt n k := rfl
  unfold State.scanFinding
  rw [hkey, hmarked]
  cases s.findKey (.wire n k none) with
  | some e => exact s.scanUnmarked_withStrings v active was e
  | none =>
    cases s.markedAt n k with
    | nil => dsimp only; split <;> rfl
    | cons e es =>
      cases active with
      | true => rfl
      | false => exact State.foldl_withStrings State.lapseIfLevel_withStrings _ s v

/-! ### The engine's part of a good scan -/

/-- An active slot that marked entries alone name requests its roll call (R114). -/
def State.requestsRollCall (s : State) (n : StringNo) (k : SlotNo) : Bool :=
  (s.findKey (.wire n k none)).isNone && !(s.markedAt n k).isEmpty

/-- What slot k of a good scan makes of the engine: a roll call requested, or its mark history cleared
(R114, R115). -/
def StringEngine.scanSlot (g : StringEngine) (k : SlotNo) (active requests : Bool) : StringEngine :=
  if active then if requests then g.requestRollCall k else g else g.setMarks k 0#8

/-- One slot of a good scan is its findings in the directory and its effect on the engine. -/
theorem State.scanSlot_eq (s : State) (n : StringNo) (samples : BitVec 54) (k : SlotNo) :
    s.scanSlot n samples k =
      (s.scanFinding n k (slotActive samples k.val)
        ((s.string n).history.getLsbD k.val)).updateString n fun g =>
          g.scanSlot k (slotActive samples k.val) (s.requestsRollCall n k) := by
  have hfinding : ∀ active was,
      s.scanSlotFinding n k active was =
        (s.scanFinding n k active was).updateString n fun g =>
          if active && s.requestsRollCall n k then g.requestRollCall k else g := by
    intro active was
    unfold State.scanSlotFinding State.scanFinding State.requestsRollCall
    cases s.findKey (.wire n k none) with
    | some e => simp
    | none =>
      cases s.markedAt n k with
      | nil => simp
      | cons e es => cases active <;> simp
  rw [State.scanSlot, hfinding]
  cases slotActive samples k.val with
  | true => simp [StringEngine.scanSlot]
  | false => simp [StringEngine.scanSlot]

/-! ### The fold over the slots -/

theorem sameKeys_lapseIfLevel (s : State) (e : EntryNo) : SameKeys s (s.lapseIfLevel e) := by
  unfold State.lapseIfLevel
  cases s.senseAt e with
  | edge => exact .refl s
  | level => exact sameKeys_lapse s e

theorem sameKeys_scanUnmarked (s : State) (active was : Bool) (e : EntryNo) :
    SameKeys s (s.scanUnmarked active was e) := by
  unfold State.scanUnmarked
  cases s.senseAt e with
  | edge =>
    dsimp only
    split
    · exact sameKeys_occurrence s e
    · exact .refl s
  | level =>
    dsimp only
    split
    · exact sameKeys_occurrence s e
    · exact sameKeys_lapse s e

theorem sameKeys_scanFinding (s : State) (n : StringNo) (k : SlotNo) (active was : Bool) :
    SameKeys s (s.scanFinding n k active was) := by
  unfold State.scanFinding
  cases s.findKey (.wire n k none) with
  | some e => exact sameKeys_scanUnmarked s active was e
  | none =>
    cases s.markedAt n k with
    | nil => dsimp only; split <;> exact .of_entries rfl
    | cons e es =>
      dsimp only
      split
      · exact .refl s
      · exact SameKeys.foldl sameKeys_lapseIfLevel _ s

theorem SameKeys.requestsRollCall {s s' : State} (h : SameKeys s s') (n : StringNo) (k : SlotNo) :
    s'.requestsRollCall n k = s.requestsRollCall n k := by
  rw [State.requestsRollCall, State.requestsRollCall, h.findKey, h.markedAt]

theorem State.requestsRollCall_updateString (s : State) (n n' : StringNo)
    (f : StringEngine → StringEngine) (k : SlotNo) :
    (s.updateString n f).requestsRollCall n' k = s.requestsRollCall n' k := rfl

/-- The findings of a good scan in the directory and the condition table, slot by slot (R111). -/
def State.scanFindings (s : State) (n : StringNo) (samples : BitVec 54) (history : BitVec 24)
    (slots : List SlotNo) : State :=
  slots.foldl
    (fun s k => s.scanFinding n k (slotActive samples k.val) (history.getLsbD k.val)) s

@[simp] theorem State.strings_occurrence (s : State) (e : EntryNo) :
    (s.occurrence e).strings = s.strings := by
  rw [State.occurrence_frame]

@[simp] theorem State.strings_lapse (s : State) (e : EntryNo) :
    (s.lapse e).strings = s.strings := by
  rw [State.lapse_frame]

@[simp] theorem State.strings_lapseIfLevel (s : State) (e : EntryNo) :
    (s.lapseIfLevel e).strings = s.strings := by
  unfold State.lapseIfLevel
  cases s.senseAt e <;> simp

theorem State.strings_foldl {α : Type} {f : State → α → State}
    (hf : ∀ s a, (f s a).strings = s.strings) (l : List α) (s : State) :
    (l.foldl f s).strings = s.strings := by
  induction l generalizing s with
  | nil => rfl
  | cons a l ih => exact (ih (f s a)).trans (hf s a)

@[simp] theorem State.strings_scanFinding (s : State) (n : StringNo) (k : SlotNo)
    (active was : Bool) : (s.scanFinding n k active was).strings = s.strings := by
  unfold State.scanFinding State.scanUnmarked
  split
  · split <;> split <;> simp
  · split
    · split <;> simp
    · split
      · rfl
      · exact State.strings_foldl State.strings_lapseIfLevel _ s

theorem State.strings_scanFindings (s : State) (n : StringNo) (samples : BitVec 54)
    (history : BitVec 24) (slots : List SlotNo) :
    (s.scanFindings n samples history slots).strings = s.strings :=
  State.strings_foldl (fun s k => s.strings_scanFinding n k _ _) slots s

theorem sameKeys_scanFindings (s : State) (n : StringNo) (samples : BitVec 54)
    (history : BitVec 24) (slots : List SlotNo) :
    SameKeys s (s.scanFindings n samples history slots) :=
  SameKeys.foldl (fun s k => sameKeys_scanFinding s n k _ _) slots s

/-- A finding passes by what is done to the engine. -/
theorem State.scanFinding_updateString (s : State) (n : StringNo) (f : StringEngine → StringEngine)
    (k : SlotNo) (active was : Bool) :
    (s.updateString n f).scanFinding n k active was =
      (s.scanFinding n k active was).updateString n f := by
  rw [State.updateString_eq, State.scanFinding_withStrings, State.updateString_eq, State.string,
    State.string, State.strings_scanFinding]

/-- What the slots of a good scan make of the engine. -/
def StringEngine.scanSlots (g : StringEngine) (active requests : SlotNo → Bool)
    (slots : List SlotNo) : StringEngine :=
  slots.foldl (fun g k => g.scanSlot k (active k) (requests k)) g

/-- The same, written out: the roll calls requested join the tail of the queue, and the mark histories of
the inactive slots are cleared (R114, R115). -/
def StringEngine.scanned (g : StringEngine) (active requests : SlotNo → Bool)
    (slots : List SlotNo) : StringEngine :=
  { g with
    rollCalls := g.rollCalls ++
      slots.filter fun k => active k && requests k && decide (k ∉ g.rollCalls)
    marks := Vector.ofFn fun k : Fin 24 =>
      if k ∈ slots ∧ active k = false then 0#8 else g.marks[k] }

theorem StringEngine.scanSlot_active {g : StringEngine} {k : SlotNo} (requests : Bool) :
    g.scanSlot k true requests =
      { g with
        rollCalls := g.rollCalls ++ if requests && decide (k ∉ g.rollCalls) then [k] else [] } := by
  cases requests with
  | false => simp [StringEngine.scanSlot]
  | true => by_cases hk : k ∈ g.rollCalls <;>
      simp [StringEngine.scanSlot, StringEngine.requestRollCall, hk]

theorem StringEngine.scanSlots_concat (g : StringEngine) (active requests : SlotNo → Bool)
    (slots : List SlotNo) (k : SlotNo) :
    g.scanSlots active requests (slots ++ [k]) =
      (g.scanSlots active requests slots).scanSlot k (active k) (requests k) :=
  List.foldl_concat _ _ _ _

theorem StringEngine.scanSlots_eq (g : StringEngine) (active requests : SlotNo → Bool)
    {slots : List SlotNo} (hslots : slots.Nodup) :
    g.scanSlots active requests slots = g.scanned active requests slots := by
  induction slots using List.reverseRecOn with
  | nil => simp [StringEngine.scanSlots, StringEngine.scanned]
  | append_singleton l k ih =>
    obtain ⟨hl, -, hdisjoint⟩ := List.nodup_append.mp hslots
    have hk : k ∉ l := fun h => hdisjoint k h k (List.mem_singleton_self k) rfl
    rw [StringEngine.scanSlots_concat, ih hl]
    cases ha : active k with
    | true =>
      have hmarks : ∀ k' : SlotNo,
          (k' ∈ l ∧ active k' = false) ↔ (k' ∈ l ++ [k] ∧ active k' = false) := by
        intro k'
        by_cases h : k' = k
        · simp [h, ha]
        · simp [h]
      rw [StringEngine.scanSlot_active]
      simp only [StringEngine.scanned, hmarks, List.filter_append, List.append_assoc]
      simp [ha, hk, List.filter_singleton]
    | false =>
      simp only [StringEngine.scanned, StringEngine.scanSlot, StringEngine.setMarks]
      simp only [Bool.false_eq_true, if_false, StringEngine.mk.injEq, true_and, and_true]
      refine ⟨by simp [ha], Vector.ext fun i hi => ?_⟩
      by_cases h : k.val = i
      · subst h; simp [ha]
      · have hne : (⟨i, hi⟩ : SlotNo) ≠ k := fun e => h (congrArg Fin.val e).symm
        simp [h, hne]

theorem StringEngine.history_scanSlots (g : StringEngine) (active requests : SlotNo → Bool)
    {slots : List SlotNo} (hslots : slots.Nodup) :
    (g.scanSlots active requests slots).history = g.history := by
  rw [StringEngine.scanSlots_eq g active requests hslots]
  rfl

/-- A good scan is its findings and what it makes of the engine, the one after the other. -/
theorem State.foldl_scanSlot (s : State) (n : StringNo) (samples : BitVec 54)
    {slots : List SlotNo} (hslots : slots.Nodup) :
    slots.foldl (fun s k => s.scanSlot n samples k) s =
      (s.scanFindings n samples (s.string n).history slots).updateString n fun g =>
        g.scanSlots (fun k => slotActive samples k.val) (s.requestsRollCall n) slots := by
  induction slots using List.reverseRecOn with
  | nil => simp [State.scanFindings, StringEngine.scanSlots]
  | append_singleton l k ih =>
    have hl := (List.nodup_append.mp hslots).1
    have hkeys := sameKeys_scanFindings s n samples (s.string n).history l
    have hstring : (s.scanFindings n samples (s.string n).history l).string n = s.string n := by
      rw [State.string, State.strings_scanFindings, State.string]
    rw [List.foldl_concat, ih hl, State.scanSlot_eq, State.string_updateString_same, hstring,
      StringEngine.history_scanSlots _ _ _ hl, State.scanFinding_updateString,
      State.updateString_updateString,
      State.requestsRollCall_updateString,
      hkeys.requestsRollCall n k]
    simp only [StringEngine.scanSlots_concat, State.scanFindings, List.foldl_concat]

/-- The engine after a good scan, before what follows the cycle is decided (R109, R114, R115, R117). -/
def StringEngine.afterGoodScan (g : StringEngine) (requests : SlotNo → Bool)
    (samples : BitVec 54) : StringEngine :=
  { g.scanned (fun k => slotActive samples k.val) requests (List.finRange 24) with
    history := scanActivity samples, faults := 0 }

theorem State.goodScan_eq (s : State) (n : StringNo) (samples : BitVec 54) :
    s.goodScan n samples =
      (s.scanFindings n samples (s.string n).history (List.finRange 24)).updateString n fun g =>
        g.afterGoodScan (s.requestsRollCall n) samples := by
  rw [State.goodScan, s.foldl_scanSlot n samples (List.nodup_finRange 24),
    State.updateString_updateString]
  simp only [StringEngine.scanSlots_eq _ _ _ (List.nodup_finRange 24)]
  rfl

end Sys2Proof.Machine
end

section
/-! PROOFS. Each change of a string's engine keeps it as its rules say it stands (R98 to R110, R120 to R125). -/

namespace Sys2Proof.Machine

open Sys2Proof.Safety

/-! ### The changes of a string's state -/

theorem engineOk_reset : EngineOk StringEngine.reset where
  divisor := by decide
  queueNodup := List.nodup_nil
  stoppedClock _ := ⟨rfl, rfl⟩
  pendingInCycle _ := ⟨rfl, rfl⟩
  scanQueue _ := rfl
  rollCallQueue _ _ := .inl rfl
  runningFaults h := by cases h
  offClear _ := ⟨rfl, rfl, rfl⟩
  restingQuiet h := by cases h
  faultedCount h := by cases h

theorem engineOk_goOff {g : StringEngine} (hd : 4 ≤ g.divisor.toNat) : EngineOk g.goOff where
  divisor := hd
  queueNodup := List.nodup_nil
  stoppedClock _ := ⟨rfl, rfl⟩
  pendingInCycle _ := ⟨rfl, rfl⟩
  scanQueue _ := rfl
  rollCallQueue _ _ := .inl rfl
  runningFaults h := by cases h
  offClear _ := ⟨rfl, rfl, rfl⟩
  restingQuiet h := by cases h
  faultedCount h := by cases h

/-- A gap may begin wherever nothing is pending and the third fault has not come. -/
theorem engineOk_beginGap {g : StringEngine} (hd : 4 ≤ g.divisor.toNat) (hn : g.rollCalls.Nodup)
    (hp : g.stopPending = false ∧ g.pendingMode = none) (hf : g.faults ≠ 3) :
    EngineOk g.beginGap where
  divisor := hd
  queueNodup := hn
  stoppedClock h := absurd rfl h
  pendingInCycle _ := hp
  scanQueue h := by cases h
  rollCallQueue _ h := by cases h
  runningFaults _ := hf
  offClear h := by cases h
  restingQuiet h := by cases h
  faultedCount h := by cases h

/-- What follows a cycle leaves the engine as its rules say; a quiet scan has cleared every history and the
fault count (R98, R106). -/
theorem engineOk_afterCycle {g : StringEngine} {quiet : Bool} (len : Nat)
    (hd : 4 ≤ g.divisor.toNat) (hn : g.rollCalls.Nodup) (hr : g.state = .running)
    (hq : quiet = true → g.history = 0#24 ∧ g.marks = Vector.replicate 24 0#8 ∧ g.faults = 0) :
    EngineOk (g.afterCycle quiet len) := by
  unfold StringEngine.afterCycle
  dsimp only
  split
  · exact engineOk_goOff hd
  have hstop : g.stopPending = false := Bool.eq_false_iff.mpr ‹_›
  split
  · exact
      { divisor := hd, queueNodup := List.nodup_nil, stoppedClock := fun _ => ⟨rfl, rfl⟩
        pendingInCycle := fun _ => ⟨hstop, rfl⟩, scanQueue := fun _ => rfl
        rollCallQueue := fun _ _ => .inl rfl, runningFaults := nofun
        offClear := nofun, restingQuiet := nofun
        faultedCount := fun _ => ⟨rfl, ‹_›⟩ }
  split
  · rename_i hrest
    obtain ⟨hmode, hquiet, hempty⟩ := hrest
    obtain ⟨hhistory, hmarks, hfaults⟩ := hq hquiet
    exact
      { divisor := hd, queueNodup := hn, stoppedClock := fun _ => ⟨rfl, rfl⟩
        pendingInCycle := fun _ => ⟨hstop, rfl⟩, scanQueue := nofun
        rollCallQueue := nofun, runningFaults := nofun
        offClear := nofun
        restingQuiet := fun _ => ⟨hempty, hhistory, hmarks, hfaults, hmode⟩
        faultedCount := nofun }
  · have hstate : ∀ st, st ≠ .running → g.state ≠ st := fun st h e => h (e.symm.trans hr)
    exact
      { divisor := hd, queueNodup := hn, stoppedClock := fun h => absurd hr h
        pendingInCycle := fun _ => ⟨hstop, rfl⟩, scanQueue := nofun
        rollCallQueue := nofun, runningFaults := fun _ => ‹_›
        offClear := fun h => absurd h (hstate _ nofun)
        restingQuiet := fun h => absurd h (hstate _ nofun)
        faultedCount := fun h => absurd h (hstate _ nofun) }

/-! ### The actions of STRING and the wake hold -/

theorem engineOk_start {g : StringEngine} (h : EngineOk g) : EngineOk g.start.1 := by
  have hgap : g.state ≠ .running → EngineOk
      { g with faults := 0, history := 0#24, marks := Vector.replicate 24 0#8 }.beginGap :=
    fun hs => engineOk_beginGap h.divisor h.queueNodup (h.pendingInCycle (h.stoppedClock hs).1)
      (by simp)
  unfold StringEngine.start
  split
  · exact hgap (by simp [*])
  · exact hgap (by simp [*])
  · exact h
  · exact h

theorem engineOk_stop {g : StringEngine} (h : EngineOk g) : EngineOk g.stop := by
  unfold StringEngine.stop
  split
  · exact h
  · exact engineOk_goOff h.divisor
  · exact engineOk_goOff h.divisor
  · split
    · exact engineOk_goOff h.divisor
    · rename_i hcycle
      have hpending : g.cycle ≠ none := by simp [hcycle]
      exact { h with pendingInCycle := fun hc => absurd hc hpending }

theorem engineOk_wake {g : StringEngine} (h : EngineOk g) (hs : g.state = .resting) :
    EngineOk g.beginGap := by
  obtain ⟨-, -, -, hfaults, -⟩ := h.restingQuiet hs
  have hcycle : g.cycle = none := (h.stoppedClock (by simp [hs])).1
  exact engineOk_beginGap h.divisor h.queueNodup (h.pendingInCycle hcycle) (by simp [hfaults])

theorem engineOk_setMode {g : StringEngine} (h : EngineOk g) (m : StringMode) :
    EngineOk (g.setMode m) := by
  unfold StringEngine.setMode
  split
  · exact { h with restingQuiet := fun hs => by simp_all }
  · exact { h with restingQuiet := fun hs => by simp_all }
  · split
    · obtain ⟨-, -, -, hfaults, -⟩ := h.restingQuiet ‹_›
      have hcycle : g.cycle = none := (h.stoppedClock (by simp [*])).1
      exact engineOk_beginGap h.divisor h.queueNodup (h.pendingInCycle hcycle) (by simp [hfaults])
    · exact h
  · split
    · exact { h with restingQuiet := fun hs => by simp_all }
    · split
      · exact h
      · rename_i hcycle _
        have hpending : g.cycle ≠ none := by simp [hcycle]
        exact { h with pendingInCycle := fun hc => absurd hc hpending }

theorem engineOk_setDivisor {g : StringEngine} (h : EngineOk g) {d : BitVec 10}
    (hd : 4 ≤ d.toNat) : EngineOk (g.setDivisor d).1 := by
  unfold StringEngine.setDivisor
  split
  · exact { h with divisor := hd }
  all_goals exact h

/-- A divisor in range is at least 4 (R103). -/
theorem divisorField_ge {w : Word} {d : BitVec 10} (h : divisorField w = some d) : 4 ≤ d.toNat := by
  unfold divisorField at h
  split at h
  · rename_i hrange
    cases h
    simp only [Config.divisorMin, Config.divisorMax, Bits.get, BitVec.extractLsb'_toNat] at hrange ⊢
    omega
  · cases h

/-! ### The clock, the choice of a cycle and RESET DIRECTORY -/

theorem engineOk_refclk {g : StringEngine} (h : EngineOk g) : EngineOk g.refclk := by
  unfold StringEngine.refclk
  split
  · exact { h with stoppedClock := fun hs => absurd ‹_› hs }
  all_goals exact h

theorem engineOk_cleared {g : StringEngine} (h : EngineOk g) : EngineOk g.cleared where
  divisor := h.divisor
  queueNodup := List.nodup_nil
  stoppedClock := h.stoppedClock
  pendingInCycle := h.pendingInCycle
  scanQueue _ := rfl
  rollCallQueue _ _ := .inl rfl
  runningFaults := h.runningFaults
  offClear _ := ⟨rfl, rfl, rfl⟩
  restingQuiet hs := by
    obtain ⟨-, -, -, hfaults, hmode⟩ := h.restingQuiet hs
    exact ⟨rfl, rfl, rfl, hfaults, hmode⟩
  faultedCount hs := ⟨rfl, (h.faultedCount hs).2⟩

/-- What is left of the queue when head slots are dropped stands at its end (R121). -/
theorem State.dropHeads_suffix (s : State) (n : StringNo) (slots : List SlotNo)
    (marks : Vector (BitVec 8) 24) : (s.dropHeads n slots marks).1 <:+ slots := by
  induction slots generalizing marks with
  | nil => exact List.suffix_rfl
  | cons k ks ih =>
    unfold State.dropHeads
    split
    · exact (ih _).trans (List.suffix_cons k ks)
    · exact List.suffix_rfl

theorem engineOk_chooseCycle {s : State} {n : StringNo} (h : EngineOk (s.string n))
    (hs : (s.string n).state = .running) : EngineOk (s.chooseCycle n) := by
  have hsuffix := s.dropHeads_suffix n (s.string n).rollCalls (s.string n).marks
  have hstate : ∀ st, st ≠ .running → (s.string n).state ≠ st := fun st h e => h (e.symm.trans hs)
  unfold State.chooseCycle
  refine
    { divisor := h.divisor
      queueNodup := h.queueNodup.sublist hsuffix.sublist
      stoppedClock := fun hne => absurd hs hne
      pendingInCycle := fun hc => by cases hc
      scanQueue := fun hc => ?_
      rollCallQueue := fun k hc => ?_
      runningFaults := h.runningFaults
      offClear := fun h => absurd h (hstate _ nofun)
      restingQuiet := fun h => absurd h (hstate _ nofun)
      faultedCount := fun h => absurd h (hstate _ nofun) }
  · dsimp only at hc ⊢
    cases hd : (s.dropHeads n (s.string n).rollCalls (s.string n).marks).1 with
    | nil => rfl
    | cons k ks => simp [hd, nextCycle] at hc
  · dsimp only at hc ⊢
    cases hd : (s.dropHeads n (s.string n).rollCalls (s.string n).marks).1 with
    | nil => exact .inl rfl
    | cons k' ks => simp_all [nextCycle]

/-! ### The ends of the cycles -/

theorem scanActivity_getLsbD (samples : BitVec 54) (k : Fin 24) :
    (scanActivity samples).getLsbD k.val = slotActive samples k.val := by
  rw [scanActivity, getLsbD_bitsOf, decide_eq_true k.isLt, Bool.true_and]

/-- A quiet scan had no active slot. -/
theorem slotActive_of_quiet {samples : BitVec 54} (h : scanActivity samples = 0#24) (k : Fin 24) :
    slotActive samples k.val = false := by
  rw [← scanActivity_getLsbD, h, BitVec.getLsbD_zero]

theorem engineOk_afterGoodScan {g : StringEngine} (h : EngineOk g) (hs : g.state = .running)
    (requests : SlotNo → Bool) (samples : BitVec 54) (len : Nat) :
    EngineOk ((g.afterGoodScan requests samples).afterCycle (scanActivity samples == 0#24) len) := by
  refine engineOk_afterCycle len h.divisor ?_ hs fun hq => ?_
  · refine List.nodup_append.mpr ⟨h.queueNodup, (List.nodup_finRange 24).filter _, ?_⟩
    rintro k hk _ hk' rfl
    simp [hk] at hk'
  · have hquiet := eq_of_beq hq
    refine ⟨hquiet, Vector.ext fun i hi => ?_, rfl⟩
    have hinactive := slotActive_of_quiet hquiet ⟨i, hi⟩
    simpa [StringEngine.afterGoodScan, StringEngine.scanned] using fun h => by simp_all

/-- A cycle that was no good scan leaves the engine as its rules say, whatever it made of the fault count,
the marks and the queue's head. -/
theorem engineOk_dropRollCall_afterCycle {g : StringEngine} (hd : 4 ≤ g.divisor.toNat)
    (hn : g.rollCalls.Nodup) (hs : g.state = .running) (k : SlotNo) (len : Nat) :
    EngineOk ((g.dropRollCall k).afterCycle false len) := by
  unfold StringEngine.dropRollCall
  split
  · exact engineOk_afterCycle len hd (hn.sublist (List.tail_sublist _)) hs nofun
  · exact engineOk_afterCycle len hd hn hs nofun

end Sys2Proof.Machine
end

section
/-! PROOFS. What one command can do to the part, said once: every command but the resets is a path of the
steps below, each of which is one shared operation under the conditions in which the part takes it. The
invariants of the part are then proved step by step. -/

namespace Sys2Proof.Machine

open Sys2Proof.Safety

/-! ### The steps -/

/-- One step of the directory: a change of entries, queues, stacks and withdrawn lists. -/
inductive DirectoryStep : State → State → Prop
  | occurrence (s : State) (e : EntryNo) : DirectoryStep s (s.occurrence e)
  | lapse (s : State) (e : EntryNo) : DirectoryStep s (s.lapse e)
  | take (s : State) (t : Taker) (e : EntryNo) (h : s.claimAnswer t = .offer e) :
      DirectoryStep s (s.take t e)
  | finish (s : State) (t : Taker) (e : EntryNo) (h : (s.stack t).head? = some e) :
      DirectoryStep s (s.finish t e)
  | giveBack (s : State) (t : Taker) (e : EntryNo) (h : e ∈ s.stack t) :
      DirectoryStep s (s.giveBack t e)
  | giveBackAll (s : State) (t : Taker) : DirectoryStep s (s.giveBackAll t)
  | withdraw (s : State) (e : EntryNo) (b : Entry) (v : Service) (hb : s.entry e = some b)
      (hv : b.service = some v) :
      DirectoryStep s
        ((s.setWithdrawn v.holder (appendWithdrawn (s.withdrawnOf v.holder) e)).giveBack v.holder e)
  | shorten (s : State) (t : Taker) (l : List EntryNo) (h : l.Sublist (s.withdrawnOf t)) :
      DirectoryStep s (s.setWithdrawn t l)
  | free (s : State) (e : EntryNo) : DirectoryStep s (s.free e)
  | bind (s : State) (e : EntryNo) (f : BindRecord) (he : s.entry e = none)
      (hf : bindRecord s = some f) (hkey : s.clashingEntry f.key = none) :
      DirectoryStep s (s.setEntry e (some f.newEntry))
  | amend (s : State) (f : AmendRecord) (b : Entry) (hf : amendRecord s = some f)
      (hb : s.entry f.entry = some b) (hsense : ¬ (f.sense = some .level ∧ b.key.isPosted = true)) :
      DirectoryStep s (s.amendEntry f f.entry b)
  | retire (s : State) (e : EntryNo) (b : Entry) (hb : s.entry e = some b) :
      DirectoryStep s (s.retireEntry e b)
  | firstExpiry (s : State) (e : EntryNo) (b : Entry) (v : Service) (l : RunningLimit)
      (h : s.outstanding e = some (b, v, l)) :
      DirectoryStep s (s.setEntry e (some (b.withService (s.afterFirstExpiry v l))))
  | dropExpiry (s : State) (e : EntryNo) (b : Entry) (v : Service) (l : RunningLimit)
      (o : Option RunningLimit) (h : s.outstanding e = some (b, v, l))
      (ho : o = none ∨ o = some { l with expired := false }) :
      DirectoryStep s (s.setEntry e (some (b.withLimit o)))
  | tick (s : State) : DirectoryStep s { s with entries := mapEntries Entry.tick s.entries }

/-- What makes the page of a SWEEP run right (R161). -/
def PageOk (r : SweepRun) : Prop :=
  r.page.length < 12 ∧ r.page.Pairwise (· < ·) ∧ ∀ e ∈ r.page, e < r.next

/-- One step of the part. -/
inductive PartStep : State → State → Prop
  | directory {s s' : State} (h : DirectoryStep s s') : PartStep s s'
  | report (s : State) (r : CondRow) (w : Culprit) : PartStep s (s.report r w)
  | condition (s : State) (f : ConditionRecord) : PartStep s (s.applyCondition f)
  | complete (s : State) (c : CommandCode) (r : ResultCode) (ws : List Word) :
      PartStep s (s.complete c r ws)
  | slot (s : State) (c : CommandSlot) (done : Bool)
      (h : SlotOk s → ∀ r, c = .sweep r → PageOk r) :
      PartStep s { s with slot := c, doneFlag := done }
  | engine (s : State) (n : StringNo) (g : StringEngine)
      (h : EngineOk (s.string n) → EngineOk g) : PartStep s (s.setString n g)
  | clocks (s : State) (c : Nat) (h : LimitUnitOk s → c < s.prescaler.toNat) :
      PartStep s
        { s with
          strings := #v[s.strings[0].refclk, s.strings[1].refclk, s.strings[2].refclk]
          prescaleCount := c }
  | cleared (s : State) (h : ∀ e, s.entry e = none) : PartStep s s.clearedLists
  | limitRow (s : State) (r : Fin 7) (row : LimitRow) (h : row.duration ≠ 0#16) :
      PartStep s (s.setLimitRow (some (r, row)))
  | prescaler (s : State) (p : BitVec 16) (h : 16 ≤ p.toNat) :
      PartStep s (s.setPrescaler (some p))
  | restart (s : State) : PartStep s { s with prescaleCount := 0 }
  /-- The words of the windows, the pointer and the masks: what no rule of the invariant speaks of. -/
  | windows (s : State) (arbiter : Taker) (takers : Vector TakerPort 4) (masks : Vector TakerSet 16)
      (cmd : Vector Word 8) (doneFlag doneEnable : Bool) (mstatData : Option Word) :
      PartStep s
        { s with
          arbiter := arbiter, takers := takers, masks := masks, cmd := cmd, doneFlag := doneFlag
          doneEnable := doneEnable, mstatData := mstatData }

/-- Steps of the part, one after the other. -/
abbrev Path : State → State → Prop := Relation.ReflTransGen PartStep

theorem PartStep.path {s s' : State} (h : PartStep s s') : Path s s' := .single h

theorem DirectoryStep.path {s s' : State} (h : DirectoryStep s s') : Path s s' :=
  PartStep.path (.directory h)

/-- A path that a directory step, a report or a window word extends. -/
theorem Path.step {s u s' : State} (h : Path s u) (h' : PartStep u s') : Path s s' := h.tail h'

theorem path_foldl {α : Type} {f : State → α → State} (hf : ∀ s a, Path s (f s a)) (l : List α)
    (s : State) : Path s (l.foldl f s) := by
  induction l generalizing s with
  | nil => exact .refl
  | cons a l ih => exact (hf s a).trans (ih (f s a))

/-- A step of the directory changes entries, queues, stacks and withdrawn lists alone. -/
theorem DirectoryStep.frame {s s' : State} (h : DirectoryStep s s') :
    s' = { s with
      entries := s'.entries, queues := s'.queues, serviceStacks := s'.serviceStacks
      withdrawn := s'.withdrawn } := by
  have hall : ∀ (t : Taker) (l : List EntryNo) (s : State),
      l.foldl (fun s e => s.giveBack t e) s =
        { s with
          entries := (l.foldl (fun s e => s.giveBack t e) s).entries
          queues := (l.foldl (fun s e => s.giveBack t e) s).queues
          serviceStacks := (l.foldl (fun s e => s.giveBack t e) s).serviceStacks } := by
    intro t l
    induction l with
    | nil => exact fun _ => rfl
    | cons e l ih => intro s; rw [List.foldl_cons, ih, State.giveBack_frame]
  cases h with
  | occurrence e => rw [State.occurrence_frame]
  | lapse e => rw [State.lapse_frame]
  | take t e => rw [State.take_frame]
  | finish t e => rw [State.finish_frame]
  | giveBack t e => rw [State.giveBack_frame]
  | giveBackAll t => rw [State.giveBackAll, hall]; rfl
  | withdraw e b v => rw [State.giveBack_frame]; rfl
  | shorten t l => rfl
  | free e => rw [State.free_frame]
  | bind e f => rfl
  | amend f b =>
    simp only [State.amendEntry]
    split
    · rfl
    · rfl
    · split
      · rw [State.dropQueue_frame]; rfl
      · split
        · rfl
        · rw [State.pushTail_frame, State.dropQueue_frame]; rfl
    · rfl
    · rfl
  | retire e b =>
    unfold State.retireEntry
    split
    · rw [State.free_frame]
    · rw [State.free_frame]
    · rw [State.free_frame]
    · rfl
    · rfl
  | firstExpiry e b v l => rfl
  | dropExpiry e b v l o => rfl
  | tick => rfl

end Sys2Proof.Machine
end

section
/-! PROOFS. Every command but the resets is a path of the part's steps: command by command. -/

namespace Sys2Proof.Machine

open Sys2Proof.Safety

/-! ### Steps that write a window word -/

theorem path_setPort (s : State) (t : Taker) (p : TakerPort) : Path s (s.setPort t p) :=
  PartStep.path (.windows s s.arbiter (s.takers.set t.val p t.isLt) s.masks s.cmd s.doneFlag
    s.doneEnable s.mstatData)

theorem path_report (s : State) (r : CondRow) (w : Culprit) : Path s (s.report r w) :=
  PartStep.path (.report s r w)

theorem path_complete (s : State) (c : CommandCode) (r : ResultCode) (ws : List Word) :
    Path s (s.complete c r ws) :=
  PartStep.path (.complete s c r ws)

theorem path_updateString {s : State} {n : StringNo} {f : StringEngine → StringEngine}
    (h : EngineOk (s.string n) → EngineOk (f (s.string n))) : Path s (s.updateString n f) :=
  PartStep.path (.engine s n _ h)

theorem path_access {s : State} {f : State → State} (h : Path s (f s)) : Path s (s.access f) := by
  unfold State.access
  split
  · exact .refl
  · exact h

/-! ### The taker windows -/

theorem path_claimOne (s : State) (t : Taker) : Path s (s.claimOne t) := by
  have hpassed : ∀ u : State, Path s u → ∀ w,
      Path s (({ u with arbiter := t } : State).returnRead t w) := fun u hu w =>
    hu.step (.windows u t _ u.masks u.cmd u.doneFlag u.doneEnable u.mstatData)
  unfold State.claimOne
  cases ha : s.claimAnswer t with
  | offer e => exact hpassed _ (DirectoryStep.path (.take s t e ha)) _
  | empty => exact hpassed s .refl _
  | full => exact hpassed s .refl _
  | halted => exact hpassed s .refl _
  | clearing => exact hpassed s .refl _

theorem path_claimGroup (s : State) (group : TakerSet) : Path s (s.claimGroup group) := by
  refine path_foldl (fun s t => ?_) _ s
  split
  · exact path_claimOne s t
  · exact .refl

theorem path_claimInReset (s : State) (group : TakerSet) : Path s (s.claimInReset group) := by
  refine path_foldl (fun s t => ?_) _ s
  split
  · exact path_setPort s t _
  · exact .refl

/-- Only the entry on top is answered OK (R58). -/
theorem head_of_doneAnswer_ok {s : State} {t : Taker} {e : EntryNo} (h : s.doneAnswer t e = .ok) :
    (s.stack t).head? = some e := by
  unfold State.doneAnswer at h
  split_ifs at h
  assumption

theorem head_of_yieldAnswer_ok {s : State} {t : Taker} {e : EntryNo} (h : s.yieldAnswer t e = .ok) :
    (s.stack t).head? = some e := by
  unfold State.yieldAnswer at h
  split_ifs at h
  assumption

theorem path_doneEffect (s : State) (t : Taker) (e : EntryNo) : Path s (s.doneEffect t e) := by
  unfold State.doneEffect
  split
  · exact DirectoryStep.path (.finish s t e (head_of_doneAnswer_ok ‹_›))
  · exact (DirectoryStep.path (.shorten s t _ List.erase_sublist)).trans (path_report _ _ _)
  · exact path_report s _ _
  · exact path_report s _ _
  all_goals exact .refl

theorem path_writeDone (s : State) (t : Taker) (v : Word) : Path s (s.writeDone t v) := by
  unfold State.writeDone
  split
  · exact path_setPort s t _
  · exact (path_doneEffect s t _).trans (path_setPort _ t _)

theorem path_yieldEffect (s : State) (t : Taker) (e : EntryNo) : Path s (s.yieldEffect t e) := by
  unfold State.yieldEffect
  split
  · exact DirectoryStep.path (.giveBack s t e (List.mem_of_head? (head_of_yieldAnswer_ok ‹_›)))
  · exact path_report s _ _
  · exact path_report s _ _
  all_goals exact .refl

theorem path_writeYield (s : State) (t : Taker) (v : Word) : Path s (s.writeYield t v) := by
  unfold State.writeYield
  split
  · exact path_setPort s t _
  · exact (path_yieldEffect s t _).trans (path_setPort _ t _)

theorem path_writeFloor (s : State) (t : Taker) (v : Word) : Path s (s.writeFloor t v) := by
  unfold State.writeFloor
  split <;> exact path_setPort s t _

theorem path_deliverPost (s : State) (c : Channel) : Path s (s.deliverPost c) := by
  unfold State.deliverPost
  split
  · exact path_report s _ _
  · exact DirectoryStep.path (.occurrence s _)

theorem path_writePost (s : State) (t : Taker) (v : Word) : Path s (s.writePost t v) := by
  have heffect : ∀ c, Path s (s.postEffect t c) := by
    intro c
    unfold State.postEffect
    split
    · exact path_report s _ _
    · exact path_deliverPost s c
  unfold State.writePost
  split
  · exact path_setPort s t _
  · exact (heffect _).trans (path_setPort _ t _)

theorem path_writeTreset (s : State) (t : Taker) (v : Word) : Path s (s.writeTreset t v) := by
  have hstack : Path s (if s.clearing then s else s.giveBackAll t) := by
    split
    · exact .refl
    · exact DirectoryStep.path (.giveBackAll s t)
  exact (hstack.trans (DirectoryStep.path (.shorten _ t [] (List.nil_sublist _)))).trans
    (path_setPort _ t _)

/-! ### The rows of GO -/

theorem path_writeCmd (s : State) (k : Fin 8) (v : Word) : Path s (s.writeCmd k v) := by
  unfold State.writeCmd
  split
  · exact path_report s _ _
  · exact PartStep.path (.windows s s.arbiter s.takers s.masks _ s.doneFlag s.doneEnable s.mstatData)

theorem path_runBind (s : State) : Path s s.runBind := by
  have hat : ∀ f e, bindRecord s = some f → s.entry e = none → Path s (s.bindAt f e) := by
    intro f e hf he
    unfold State.bindAt
    split
    · exact path_complete s _ _ _
    · exact (DirectoryStep.path (.bind s e f he hf ‹_›)).trans (path_complete _ _ _ _)
  unfold State.runBind
  split
  · exact path_complete s _ _ _
  · split
    · split
      · exact path_complete s _ _ _
      · rename_i e hfree
        exact hat _ e ‹_› (by simpa using List.find?_some hfree)
    · split
      · exact path_complete s _ _ _
      · exact hat _ _ ‹_› (Option.not_isSome_iff_eq_none.mp ‹_›)

theorem path_runAmend (s : State) : Path s s.runAmend := by
  unfold State.runAmend
  split
  · exact path_complete s _ _ _
  · split
    · exact path_complete s _ _ _
    · split
      · exact path_complete s _ _ _
      · split
        · exact path_complete s _ _ _
        · exact (DirectoryStep.path (.amend s _ _ ‹_› ‹_› ‹_›)).trans (path_complete _ _ _ _)

theorem path_runRetire (s : State) : Path s s.runRetire := by
  unfold State.runRetire
  split
  · exact path_complete s _ _ _
  · split
    · exact path_complete s _ _ _
    · have hretire := DirectoryStep.path (.retire s _ _ ‹_›)
      dsimp only
      split <;> exact hretire.trans (path_complete _ _ _ _)

theorem path_runLookup (s : State) : Path s s.runLookup := by
  unfold State.runLookup
  split
  · exact path_complete s _ _ _
  · split <;> exact path_complete s _ _ _

theorem path_runFind (s : State) : Path s s.runFind := by
  unfold State.runFind
  split
  · exact path_complete s _ _ _
  · split <;> exact path_complete s _ _ _

/-- An accepted SWEEP starts with an empty page (R161). -/
theorem page_of_sweepRecord {s : State} {r : SweepRun} (h : sweepRecord s = some r) :
    r.page = [] := by
  unfold sweepRecord at h
  split at h
  · split at h
    · cases h
    · cases h; rfl
  · cases h
  · cases h

theorem path_runSweep (s : State) : Path s s.runSweep := by
  unfold State.runSweep
  split
  · exact path_complete s _ _ _
  · rename_i r hr
    refine PartStep.path (.slot s _ _ fun _ r' hr' => ?_)
    obtain rfl := CommandSlot.sweep.inj hr'
    simp [PageOk, page_of_sweepRecord hr]

theorem path_runPostCommand (s : State) : Path s s.runPostCommand := by
  unfold State.runPostCommand
  split <;> exact (path_deliverPost s _).trans (path_complete _ _ _ _)

theorem path_runPermit (s : State) : Path s s.runPermit := by
  unfold State.runPermit
  split
  · split
    · exact path_complete s _ _ _
    · exact (PartStep.path (.windows s s.arbiter s.takers _ s.cmd s.doneFlag s.doneEnable
        s.mstatData)).trans (path_complete (s.setMask _ _) _ _ _)
  · exact path_complete s _ _ _

theorem path_runTakerEnable (s : State) : Path s s.runTakerEnable := by
  unfold State.runTakerEnable
  split
  · exact path_complete s _ _ _
  · exact (path_setPort s _ _).trans (path_complete _ _ _ _)

theorem path_runTakerHalt (s : State) : Path s s.runTakerHalt := by
  unfold State.runTakerHalt
  split
  · exact path_complete s _ _ _
  · exact (path_setPort s _ _).trans (path_complete _ _ _ _)

theorem path_runTakerNone (s : State) : Path s s.runTakerNone := by
  unfold State.runTakerNone
  split <;> exact path_complete s _ _ _

theorem path_completeString (s : State) (n : StringNo) (r : ResultCode) :
    Path s (s.completeString n r) := path_complete s _ _ _

theorem path_runStart (s : State) : Path s s.runStart := by
  unfold State.runStart
  split
  · exact path_complete s _ _ _
  · exact (PartStep.path (.engine s _ _ engineOk_start)).trans (path_completeString _ _ _)

theorem path_runStop (s : State) : Path s s.runStop := by
  unfold State.runStop
  split
  · exact path_complete s _ _ _
  · exact (PartStep.path (.engine s _ _ engineOk_stop)).trans (path_completeString _ _ _)

theorem path_runMode (s : State) : Path s s.runMode := by
  unfold State.runMode
  split
  · exact path_complete s _ _ _
  · split
    · exact path_completeString s _ _
    · exact (PartStep.path (.engine s _ _ fun h => engineOk_setMode h _)).trans
        (path_completeString _ _ _)

theorem path_runDivisor (s : State) : Path s s.runDivisor := by
  unfold State.runDivisor
  split
  · exact path_complete s _ _ _
  · split
    · exact path_completeString s _ _
    · exact (PartStep.path (.engine s _ _ fun h => engineOk_setDivisor h (divisorField_ge ‹_›))).trans
        (path_completeString _ _ _)

theorem path_runStringBadAction (s : State) : Path s s.runStringBadAction := by
  unfold State.runStringBadAction
  split
  · exact path_complete s _ _ _
  · exact path_completeString s _ _

/-- A LIMIT in range gives its row a duration above 0 (R78). -/
theorem path_setLimitRow {s : State} {r : Option (Fin 7 × LimitRow)}
    (h : limitRowField s = some r) : Path s (s.setLimitRow r) := by
  unfold limitRowField at h
  split at h
  · split at h
    · split at h
      · cases h
      · cases h
        refine PartStep.path (.limitRow s _ _ fun hzero => ?_)
        rename_i hd
        exact hd (congrArg BitVec.toNat hzero)
    · cases h
    · cases h
  · cases h
    exact .refl

/-- A LIMIT in range gives the prescaler a value of at least 16 (R78). -/
theorem path_setPrescaler {s u : State} {p : Option (BitVec 16)}
    (h : prescalerField s = some p) : Path u (u.setPrescaler p) := by
  unfold prescalerField at h
  split at h
  · split at h
    · cases h
    · cases h
      exact PartStep.path (.prescaler u _ (Nat.not_lt.mp ‹_›))
  · cases h
    exact .refl

theorem path_runLimit (s : State) : Path s s.runLimit := by
  unfold State.runLimit
  split
  · exact ((path_setLimitRow ‹_›).trans (path_setPrescaler ‹_›)).trans (path_complete _ _ _ _)
  all_goals exact path_complete s _ _ _

theorem path_runCondition (s : State) : Path s s.runCondition := by
  unfold State.runCondition
  split
  · exact path_complete s _ _ _
  · exact (PartStep.path (.condition s _)).trans (path_complete _ _ _ _)

theorem path_runRow (s : State) (r : GoRow) : Path s (s.runRow r) := by
  cases r with
  | whileBusy => exact path_report s _ _
  | undefinedCommand => exact path_complete s _ _ _
  | bind => exact path_runBind s
  | amend => exact path_runAmend s
  | retire => exact path_runRetire s
  | lookup => exact path_runLookup s
  | find => exact path_runFind s
  | sweep => exact path_runSweep s
  | postCommand => exact path_runPostCommand s
  | permit => exact path_runPermit s
  | takerNone => exact path_runTakerNone s
  | takerEnable => exact path_runTakerEnable s
  | takerHalt => exact path_runTakerHalt s
  | takerBadAction => exact path_complete s _ _ _
  | start => exact path_runStart s
  | stop => exact path_runStop s
  | mode => exact path_runMode s
  | divisor => exact path_runDivisor s
  | stringBadAction => exact path_runStringBadAction s
  | limit => exact path_runLimit s
  | condition => exact path_runCondition s
  | resetDirectory => exact PartStep.path (.slot s _ _ fun _ _ h => by cases h)

theorem path_writeMctl (s : State) (v : Word) : Path s (s.writeMctl v) :=
  PartStep.path (.windows s s.arbiter s.takers s.masks s.cmd s.doneFlag _ s.mstatData)

theorem path_busWrite (s : State) (a : BitVec 7) (v : Word) : Path s (s.busWrite a v) := by
  unfold State.busWrite
  split
  case h_1 => exact path_writeDone s _ v
  case h_2 => exact path_writeYield s _ v
  case h_3 => exact path_writeFloor s _ v
  case h_4 => exact path_writePost s _ v
  case h_5 => exact path_writeTreset s _ v
  case h_11 => exact path_writeCmd s _ v
  case h_12 => exact path_runRow s _
  case h_13 => exact path_writeMctl s v
  all_goals exact .refl

/-! ### The request strings -/

theorem path_lapseIfLevel (s : State) (e : EntryNo) : Path s (s.lapseIfLevel e) := by
  unfold State.lapseIfLevel
  split
  · exact .refl
  · exact DirectoryStep.path (.lapse s e)

theorem path_scanFinding (s : State) (n : StringNo) (k : SlotNo) (active was : Bool) :
    Path s (s.scanFinding n k active was) := by
  unfold State.scanFinding State.scanUnmarked
  split
  · split
    · split
      · exact DirectoryStep.path (.occurrence s _)
      · exact .refl
    · split
      · exact DirectoryStep.path (.occurrence s _)
      · exact DirectoryStep.path (.lapse s _)
  · split
    · split
      · exact path_report s _ _
      · exact .refl
    · split
      · exact .refl
      · exact path_foldl path_lapseIfLevel _ s

theorem path_scanFindings (s : State) (n : StringNo) (samples : BitVec 54) (history : BitVec 24)
    (slots : List SlotNo) : Path s (s.scanFindings n samples history slots) :=
  path_foldl (fun s k => path_scanFinding s n k _ _) slots s

/-- The report of a faulted cycle, before the engine counts the fault (R109). -/
def State.reportFault (s : State) (n : StringNo) : State :=
  if bumpFaults (s.string n).faults = 3 then s.report .stringFault (.string n) else s

theorem State.faultedEnd_eq (s : State) (n : StringNo) :
    s.faultedEnd n =
      (s.reportFault n).updateString n fun g => { g with faults := bumpFaults g.faults } := by
  simp only [State.faultedEnd, State.reportFault]
  split <;> rfl

@[simp] theorem State.string_reportFault (s : State) (n n' : StringNo) :
    (s.reportFault n).string n' = s.string n' := by
  unfold State.reportFault
  split <;> rfl

theorem path_reportFault (s : State) (n : StringNo) : Path s (s.reportFault n) := by
  unfold State.reportFault
  split
  · exact path_report s _ _
  · exact .refl

/-- The end event of a faulted cycle is the report, then the engine's own change. -/
theorem path_faultedEnd {s : State} {n : StringNo} {f : StringEngine → StringEngine}
    (h : EngineOk (s.string n) →
      EngineOk (f { s.string n with faults := bumpFaults (s.string n).faults })) :
    Path s ((s.faultedEnd n).updateString n f) := by
  rw [State.faultedEnd_eq, State.updateString_updateString]
  refine (path_reportFault s n).trans (path_updateString ?_)
  rw [State.string_reportFault]
  exact h

theorem State.string_scanFindings (s : State) (n n' : StringNo) (samples : BitVec 54)
    (history : BitVec 24) (slots : List SlotNo) :
    (s.scanFindings n samples history slots).string n' = s.string n' := by
  rw [State.string, State.strings_scanFindings, State.string]

theorem path_endScan {s : State} {n : StringNo} (samples : BitVec 54)
    (hs : (s.string n).state = .running) : Path s (s.endScan n samples) := by
  unfold State.endScan
  cases hf : scanFaulted samples with
  | true =>
    exact path_faultedEnd fun h => engineOk_afterCycle _ h.divisor h.queueNodup hs nofun
  | false =>
    rw [if_neg Bool.false_ne_true, State.goodScan_eq, State.updateString_updateString]
    refine (path_scanFindings s n samples _ _).trans (path_updateString ?_)
    rw [State.string_scanFindings]
    exact fun h => engineOk_afterGoodScan h hs _ samples _

theorem path_rollCallMark (s : State) (n : StringNo) (k : SlotNo) (hist : BitVec 8)
    (samples : BitVec 27) (m : Mark) : Path s (s.rollCallMark n k hist samples m) := by
  unfold State.rollCallMark
  split
  · split
    · exact path_report s _ _
    · exact .refl
  · split
    · split
      · split
        · exact .refl
        · exact DirectoryStep.path (.occurrence s _)
      · exact DirectoryStep.path (.occurrence s _)
    · exact path_lapseIfLevel s _

theorem State.strings_rollCallMark (s : State) (n : StringNo) (k : SlotNo) (hist : BitVec 8)
    (samples : BitVec 27) (m : Mark) : (s.rollCallMark n k hist samples m).strings = s.strings := by
  unfold State.rollCallMark
  split
  · split <;> simp
  · split
    · split
      · split <;> simp
      · simp
    · simp

/-- The findings of a good roll call in the directory and the condition table, with the SILENT report
(R128 to R131). -/
def State.rollCallFindings (s : State) (n : StringNo) (k : SlotNo) (samples : BitVec 27) : State :=
  let found :=
    (List.finRange 8).foldl
      (fun s' m => s'.rollCallMark n k ((s.string n).marks[k]) samples m) s
  if answeredMarks samples = 0#8 then found.report .silent (.slot n k) else found

theorem State.goodRollCall_eq (s : State) (n : StringNo) (k : SlotNo) (samples : BitVec 27) :
    s.goodRollCall n k samples =
      (s.rollCallFindings n k samples).updateString n fun g =>
        { g.setMarks k (answeredMarks samples) with faults := 0 } := rfl

theorem State.strings_rollCallFindings (s : State) (n : StringNo) (k : SlotNo)
    (samples : BitVec 27) : (s.rollCallFindings n k samples).strings = s.strings := by
  have hfold := State.strings_foldl
    (fun s' m => State.strings_rollCallMark s' n k ((s.string n).marks[k]) samples m)
    (List.finRange 8) s
  simp only [State.rollCallFindings]
  split <;> simpa using hfold

theorem path_rollCallFindings (s : State) (n : StringNo) (k : SlotNo) (samples : BitVec 27) :
    Path s (s.rollCallFindings n k samples) := by
  have hfold := path_foldl
    (fun s' m => path_rollCallMark s' n k ((s.string n).marks[k]) samples m) (List.finRange 8) s
  simp only [State.rollCallFindings]
  split
  · exact hfold.trans (path_report _ _ _)
  · exact hfold

theorem path_endRollCall {s : State} {n : StringNo} {k : SlotNo} (samples : BitVec 27)
    (hs : (s.string n).state = .running) : Path s (s.endRollCall n k samples) := by
  unfold State.endRollCall
  split
  · exact path_faultedEnd fun h =>
      engineOk_dropRollCall_afterCycle (by exact h.divisor) (by exact h.queueNodup) (by exact hs) k _
  · rw [State.goodRollCall_eq, State.updateString_updateString]
    refine (path_rollCallFindings s n k samples).trans (path_updateString ?_)
    rw [State.string, State.strings_rollCallFindings, ← State.string]
    exact fun h => engineOk_dropRollCall_afterCycle (by exact h.divisor) (by exact h.queueNodup) (by exact hs) k _

/-! ### The part's own events -/

theorem path_examine {s : State} {r : SweepRun} (hs : s.slot = .sweep r) : Path s (s.examine r) := by
  unfold State.examine
  split
  · exact path_complete s _ _ _
  · split
    · exact path_complete s _ _ _
    · rename_i hlength _ e hnext
      refine PartStep.path (.slot s _ s.doneFlag fun hslot r' hr' => ?_)
      obtain rfl := CommandSlot.sweep.inj hr'
      obtain ⟨-, hsorted, hbelow⟩ := hslot r hs
      have he : e.val = r.next.val + 1 := entryNo?_eq_some.mp hnext
      have hlt : ∀ x ∈ s.sweepPage r, x < e := by
        intro x hx
        unfold State.sweepPage at hx
        have hx' : x ∈ r.page ∨ x = r.next := by split at hx <;> simp_all
        rcases hx' with hx' | rfl
        · exact Fin.lt_def.mpr (he ▸ Nat.lt_succ_of_lt (hbelow x hx'))
        · exact Fin.lt_def.mpr (he ▸ Nat.lt_succ_self _)
      refine ⟨Nat.not_le.mp hlength, ?_, hlt⟩
      change (s.sweepPage r).Pairwise (· < ·)
      unfold State.sweepPage
      split
      · exact List.pairwise_append.mpr ⟨hsorted, List.pairwise_singleton _ _,
          fun x hx y hy => by rw [List.mem_singleton.mp hy]; exact hbelow x hx⟩
      · exact hsorted

theorem outstanding_eq_some {s : State} {e : EntryNo} {b : Entry} {v : Service} {l : RunningLimit}
    (h : s.outstanding e = some (b, v, l)) :
    s.entry e = some b ∧ b.service = some v ∧ v.limit = some l ∧ l.expired = true := by
  unfold State.outstanding at h
  split at h
  · cases h
  · split at h
    · cases h
    · split at h
      · cases h
      · split at h
        · cases h; exact ⟨‹_›, ‹_›, ‹_›, ‹_›⟩
        · cases h

theorem path_takeSecondExpiry {s : State} {e : EntryNo} {b : Entry} {v : Service}
    {l : RunningLimit} (h : s.outstanding e = some (b, v, l)) :
    Path s (s.takeSecondExpiry e b v l) := by
  obtain ⟨hb, hv, -, -⟩ := outstanding_eq_some h
  unfold State.takeSecondExpiry
  split
  · exact (DirectoryStep.path (.withdraw s e b v hb hv)).trans (path_report _ _ _)
  · exact DirectoryStep.path (.dropExpiry s e b v l none h (.inl rfl))

/-! ### Every command -/

/-- An answer that a path of the part's steps from s reaches. -/
def Follows (s : State) (o : Host.Outcome State Fault Refusal) : Prop :=
  ∀ s', o = .next s' → Path s s'

theorem follows_next {s a : State} (h : Path s a) : Follows s (.next a) := by
  intro s' hs'
  obtain rfl := Host.Outcome.next.inj hs'
  exact h

theorem follows_goAs (s : State) (r : GoRow) :
    Follows s (.next (s.goAs r fun s => s.runRow r)) := by
  rw [State.goAs_runRow]
  exact follows_next (path_access (path_runRow s _))

theorem follows_execSweepExamination (s : State) : Follows s (execSweepExamination s) := by
  unfold execSweepExamination
  split
  · exact follows_next (path_examine ‹_›)
  all_goals exact follows_next .refl

theorem follows_execClearingFree (s : State) : Follows s (execClearingFree s) := by
  unfold execClearingFree
  split
  · exact follows_next (DirectoryStep.path (.free s _))
  all_goals exact follows_next .refl

theorem nextToFree_eq_none {s : State} : s.nextToFree = none ↔ ∀ e, s.entry e = none := by
  simp [State.nextToFree, allEntries]

theorem follows_execResetDirectoryCompletion (s : State) :
    Follows s (execResetDirectoryCompletion s) := by
  unfold execResetDirectoryCompletion
  split
  · exact follows_next
      ((PartStep.path (.cleared s (nextToFree_eq_none.mp ‹_›))).trans (path_complete _ _ _ _))
  all_goals exact follows_next .refl

theorem follows_execNextCycleChoice (n : StringNo) (s : State) :
    Follows s (execNextCycleChoice n s) := by
  unfold execNextCycleChoice
  split
  · rename_i h
    exact follows_next (PartStep.path (.engine s n _ fun hok => engineOk_chooseCycle hok h.1))
  · exact follows_next .refl

theorem follows_execScanEnd (n : StringNo) (samples : BitVec 54) (s : State) :
    Follows s (execScanEnd n samples s) := by
  unfold execScanEnd
  split
  · rename_i h
    exact follows_next (path_endScan samples h.1)
  · exact follows_next .refl

theorem follows_execRollCallEnd (n : StringNo) (samples : BitVec 27) (s : State) :
    Follows s (execRollCallEnd n samples s) := by
  unfold execRollCallEnd
  split
  · exact follows_next (path_endRollCall samples ‹_›)
  all_goals exact follows_next .refl

theorem follows_execWakeHold (n : StringNo) (s : State) : Follows s (execWakeHold n s) := by
  unfold execWakeHold
  split
  · exact follows_next (path_updateString fun h => engineOk_wake h ‹_›)
  all_goals exact follows_next .refl

theorem path_tickAll (s : State) : Path s s.tickAll :=
  (DirectoryStep.path (.tick s)).trans (PartStep.path (.restart _))

theorem follows_execTick (s : State) : Follows s (execTick s) := by
  refine follows_next ?_
  split
  · exact .refl
  · exact path_tickAll s

theorem follows_execFirstExpiry (e : EntryNo) (s : State) : Follows s (execFirstExpiry e s) := by
  unfold execFirstExpiry
  split
  · exact follows_next .refl
  · rename_i b v l h
    split
    · refine follows_next ?_
      split
      · exact DirectoryStep.path (.dropExpiry s e b v l _ h (.inr rfl))
      · exact (DirectoryStep.path (.firstExpiry s e b v l h)).trans (path_report _ _ _)
    · exact follows_next .refl

theorem follows_execSecondExpiry (e : EntryNo) (s : State) : Follows s (execSecondExpiry e s) := by
  unfold execSecondExpiry
  split
  · exact follows_next .refl
  · rename_i b v l h
    split
    · refine follows_next ?_
      split
      · exact DirectoryStep.path (.dropExpiry s e b v l _ h (.inr rfl))
      · exact path_takeSecondExpiry h
    · exact follows_next .refl

theorem follows_execMstatRead (s : State) : Follows s (execMstatRead s) := by
  refine follows_next ?_
  split
  · exact PartStep.path
      (.windows s s.arbiter s.takers s.masks s.cmd s.doneFlag s.doneEnable _)
  · exact PartStep.path (.windows s s.arbiter s.takers s.masks s.cmd _ s.doneEnable _)

/-- Every command but the resets is a path of the part's steps. -/
theorem exec_follows (i : Instr) (s : State) (hon : i ≠ .powerOn) (hassert : i ≠ .resetnAssert)
    (hrelease : ∀ held, i ≠ .resetnRelease held) : Follows s (exec i s) := by
  cases i with
  | powerOn => exact absurd rfl hon
  | resetnAssert => exact absurd rfl hassert
  | resetnRelease held => exact absurd rfl (hrelease held)
  | claim group =>
    refine follows_next ?_
    split
    · exact path_claimInReset s group
    · exact path_claimGroup s group
  | peek t => exact follows_next (path_setPort s t _)
  | done t v => exact follows_next (path_access (path_writeDone s t v))
  | yield t v => exact follows_next (path_access (path_writeYield s t v))
  | floor t v => exact follows_next (path_access (path_writeFloor s t v))
  | post t v => exact follows_next (path_access (path_writePost s t v))
  | treset t v => exact follows_next (path_access (path_writeTreset s t v))
  | ignoredWrite a v =>
    refine follows_next (path_access ?_)
    split
    · exact path_busWrite s a v
    · exact .refl
  | cmdWrite k v => exact follows_next (path_access (path_writeCmd s k v))
  | mstatRead => exact follows_execMstatRead s
  | mctlWrite v => exact follows_next (path_access (path_writeMctl s v))
  | undefinedCommand go => exact follows_goAs s .undefinedCommand
  | bind go => exact follows_goAs s .bind
  | amend go => exact follows_goAs s .amend
  | retire go => exact follows_goAs s .retire
  | lookup go => exact follows_goAs s .lookup
  | find go => exact follows_goAs s .find
  | sweep go => exact follows_goAs s .sweep
  | postCommand go => exact follows_goAs s .postCommand
  | permit go => exact follows_goAs s .permit
  | takerEnable go => exact follows_goAs s .takerEnable
  | takerHalt go => exact follows_goAs s .takerHalt
  | takerNone go => exact follows_goAs s .takerNone
  | takerBadAction go => exact follows_goAs s .takerBadAction
  | start go => exact follows_goAs s .start
  | stop go => exact follows_goAs s .stop
  | mode go => exact follows_goAs s .mode
  | divisor go => exact follows_goAs s .divisor
  | stringBadAction go => exact follows_goAs s .stringBadAction
  | limit go => exact follows_goAs s .limit
  | condition go => exact follows_goAs s .condition
  | resetDirectory go => exact follows_goAs s .resetDirectory
  | goWhileBusy go => exact follows_goAs s .whileBusy
  | sweepExamination => exact follows_execSweepExamination s
  | clearingFree => exact follows_execClearingFree s
  | resetDirectoryCompletion => exact follows_execResetDirectoryCompletion s
  | nextCycleChoice n => exact follows_execNextCycleChoice n s
  | scanEnd n samples => exact follows_execScanEnd n samples s
  | rollCallEnd n samples => exact follows_execRollCallEnd n samples s
  | wakeHold n => exact follows_execWakeHold n s
  | tick => exact follows_execTick s
  | firstExpiry e => exact follows_execFirstExpiry e s
  | secondExpiry e => exact follows_execSecondExpiry e s

/-- One REFCLK period is a path of the part's steps. -/
theorem path_refclk (s : State) : Path s s.refclk := by
  simp only [State.refclk]
  split
  · exact .refl
  · split
    · exact (PartStep.path (.clocks s 0 fun h => by have := h.2.1; omega)).trans (path_tickAll _)
    · exact PartStep.path (.clocks s _ fun _ => Nat.not_le.mp ‹_›)

/-! ### Every step -/

/-- A step is one REFCLK period on an empty queue, or the front command on the queue's rest (log 2). -/
theorem step_cases {s s' : State} (h : step s = .next s') :
    s' = s.refclk ∨ ∃ c rest, exec c { s with pending := rest } = .next s' := by
  cases hp : s.pending with
  | nil =>
    rw [step_nil s hp] at h
    exact .inl (Host.Outcome.next.inj h).symm
  | cons c rest =>
    rw [step_cons s c rest hp] at h
    exact .inr ⟨c, rest, h⟩

/-- What every step of the part keeps, the resets bring about and a release leaves alone, every step of the
machine keeps. -/
theorem step_keeps {I : State → Prop} (hpending : ∀ s p, I s → I { s with pending := p })
    (hheld : ∀ s : State, I s.held)
    (hrelease : ∀ s : State, I s → I { s with inReset := false, prescaleCount := 0 })
    (hstep : ∀ s s', PartStep s s' → I s → I s') (s s' : State) (hI : I s)
    (h : step s = .next s') : I s' := by
  have hpath : ∀ u u', Path u u' → I u → I u' := by
    intro u u' hu hIu
    induction hu with
    | refl => exact hIu
    | tail _ hlast ih => exact hstep _ _ hlast ih
  rcases step_cases h with rfl | ⟨c, rest, h⟩
  · exact hpath s _ (path_refclk s) hI
  · have hI' := hpending s rest hI
    by_cases hon : c = .powerOn
    · subst hon
      obtain rfl := Host.Outcome.next.inj h
      exact hheld _
    by_cases hassert : c = .resetnAssert
    · subst hassert
      obtain rfl := Host.Outcome.next.inj h
      exact hheld _
    by_cases hrel : ∃ held, c = .resetnRelease held
    · obtain ⟨held, rfl⟩ := hrel
      change execResetnRelease held _ = _ at h
      unfold execResetnRelease at h
      split at h
      · split at h
        · cases h
        · obtain rfl := Host.Outcome.next.inj h
          exact hrelease _ hI'
      · obtain rfl := Host.Outcome.next.inj h
        exact hI'
    · exact hpath _ _ (exec_follows c _ hon hassert (fun held he => hrel ⟨held, he⟩) s' h) hI'

end Sys2Proof.Machine
end

section
/-! PROOFS. The condition rows, the string engines, the limit unit's figures and the command slot, each kept by
every step (O58, O60). -/

namespace Sys2Proof.Machine

open Sys2Proof.Safety

/-! ### Condition rows -/

theorem conditionOk_reported {c : Condition} (h : ConditionOk c) (w : Culprit) :
    ConditionOk (c.reported w) := by
  have hcount : (c.reported w).count ≠ 0#8 := by
    unfold Condition.reported
    dsimp only
    split <;> bv_omega
  refine ⟨⟨fun _ => hcount, fun _ => rfl⟩, ⟨fun _ => hcount, fun _ => ?_⟩⟩
  unfold Condition.reported
  dsimp only
  split
  · rfl
  · exact h.2.mpr ‹_›

theorem conditionOk_applyRow {c : Condition} (h : ConditionOk c) (f : ConditionRecord) (k : Fin 9) :
    ConditionOk (f.applyRow k c) := by
  have hack : ConditionOk (if f.acknowledge.getLsbD k.val then c.acknowledged else c) := by
    split
    · exact ⟨by simp [Condition.acknowledged], by simp [Condition.acknowledged]⟩
    · exact h
  unfold ConditionRecord.applyRow
  dsimp only
  split <;> exact hack

theorem PartStep.conditionsOk {s s' : State} (h : PartStep s s') (hs : ConditionsOk s) :
    ConditionsOk s' := by
  cases h with
  | directory h => rw [h.frame]; exact hs
  | report r w =>
    intro k
    rw [State.conditions_report, Fin.getElem_fin, Vector.getElem_set]
    split
    · exact conditionOk_reported (hs r.ix) w
    · exact hs k
  | condition f =>
    intro k
    simpa [State.applyCondition] using conditionOk_applyRow (hs k) f k
  | _ => exact hs

theorem conditionsOk_held (s : State) : ConditionsOk s.held := by
  intro k
  have hrow : s.held.conditions[k] = Condition.reset := by simp [State.held, State.reset]
  rw [hrow]
  exact ⟨by simp [Condition.reset], by simp [Condition.reset]⟩

/-! ### String engines -/

theorem PartStep.stringsOk {s s' : State} (h : PartStep s s') (hs : StringsOk s) : StringsOk s' := by
  cases h with
  | directory h => rw [h.frame]; exact hs
  | engine n g h =>
    intro n'
    rw [State.string_setString]
    split
    · exact h (hs n)
    · exact hs n'
  | clocks c h =>
    intro n
    fin_cases n
    · exact engineOk_refclk (hs 0)
    · exact engineOk_refclk (hs 1)
    · exact engineOk_refclk (hs 2)
  | cleared h =>
    intro n
    fin_cases n
    · exact engineOk_cleared (hs 0)
    · exact engineOk_cleared (hs 1)
    · exact engineOk_cleared (hs 2)
  | _ => exact hs

theorem stringsOk_held (s : State) : StringsOk s.held := by
  intro n
  have hstring : s.held.string n = StringEngine.reset := by
    simp [State.held, State.reset, State.string]
  rw [hstring]
  exact engineOk_reset

/-! ### The limit unit's figures -/

theorem PartStep.limitUnitOk {s s' : State} (h : PartStep s s') (hs : LimitUnitOk s) :
    LimitUnitOk s' := by
  obtain ⟨hrows, hp, hcount⟩ := hs
  cases h with
  | directory h => rw [h.frame]; exact ⟨hrows, hp, hcount⟩
  | limitRow r row h =>
    refine ⟨fun r' => ?_, hp, hcount⟩
    simp only [State.setLimitRow, Fin.getElem_fin, Vector.getElem_set]
    split
    · exact h
    · exact hrows r'
  | prescaler p h => exact ⟨hrows, h, by simp [State.setPrescaler]; omega⟩
  | restart => exact ⟨hrows, hp, by dsimp only; omega⟩
  | clocks c h => exact ⟨hrows, hp, h ⟨hrows, hp, hcount⟩⟩
  | _ => exact ⟨hrows, hp, hcount⟩

theorem limitUnitOk_held (s : State) : LimitUnitOk s.held :=
  ⟨fun r => by simp [State.held, State.reset], (by decide : 16 ≤ (320#16).toNat),
    (by decide : 0 < (320#16).toNat)⟩

/-! ### The command slot -/

theorem PartStep.slotOk {s s' : State} (h : PartStep s s') (hs : SlotOk s) : SlotOk s' := by
  cases h with
  | directory h => rw [h.frame]; exact hs
  | complete c r ws => intro r' h; cases h
  | slot c done h => exact h hs
  | _ => exact hs

theorem slotOk_held (s : State) : SlotOk s.held := by
  intro r h
  cases h

end Sys2Proof.Machine

namespace Sys2Proof.Claims

open Sys2Proof.Machine

/-- Settles O58: a report latches, counts and keeps a culprit together, and CONDITION clears them together. -/
theorem stepKeepsConditionRows : Obligations.StepKeepsConditionRows :=
  step_keeps (fun _ _ h => h) conditionsOk_held (fun _ h => h) fun _ _ h => h.conditionsOk

/-- Settles O60: every change of an engine keeps what its rules say of it. -/
theorem stepKeepsStringEngines : Obligations.StepKeepsStringEngines :=
  step_keeps (fun _ _ h => h) stringsOk_held (fun _ h => h) fun _ _ h => h.stringsOk

end Sys2Proof.Claims
end

section
/-! PROOFS. The rules of the operations on a service and on a binding: the entry, the queues, the stacks and
the withdrawn lists after each of them (R14 to R19, R22 to R26). -/

namespace Sys2Proof.Machine

open Sys2Proof.Claims

/-! ### Pieces -/

theorem State.stack_dropStack (s : State) (t : Taker) (e : EntryNo) (t' : Taker) :
    (s.dropStack t e).stack t' = if t' = t then (s.stack t).erase e else s.stack t' := by
  rw [State.dropStack, State.stack_setStack]
  simp only [eq_comm]

@[simp] theorem State.entry_dropStack (s : State) (t : Taker) (e e' : EntryNo) :
    (s.dropStack t e).entry e' = s.entry e' := rfl

@[simp] theorem State.queue_dropStack (s : State) (t : Taker) (e : EntryNo) (k : Level) :
    (s.dropStack t e).queue k = s.queue k := rfl

@[simp] theorem State.queues_dropStack (s : State) (t : Taker) (e : EntryNo) :
    (s.dropStack t e).queues = s.queues := rfl

@[simp] theorem State.stack_pushTail (s : State) (k : Level) (e : EntryNo) (t : Taker) :
    (s.pushTail k e).stack t = s.stack t := s.stack_setQueue k _ t

@[simp] theorem State.stack_pushHead (s : State) (k : Level) (e : EntryNo) (t : Taker) :
    (s.pushHead k e).stack t = s.stack t := s.stack_setQueue k _ t

@[simp] theorem State.stack_dropQueue (s : State) (k : Level) (e : EntryNo) (t : Taker) :
    (s.dropQueue k e).stack t = s.stack t := s.stack_setQueue k _ t

@[simp] theorem State.entry_pushTail (s : State) (k : Level) (e e' : EntryNo) :
    (s.pushTail k e).entry e' = s.entry e' := s.entry_setQueue k _ e'

@[simp] theorem State.entry_pushHead (s : State) (k : Level) (e e' : EntryNo) :
    (s.pushHead k e).entry e' = s.entry e' := s.entry_setQueue k _ e'

@[simp] theorem State.entry_dropQueue (s : State) (k : Level) (e e' : EntryNo) :
    (s.dropQueue k e).entry e' = s.entry e' := s.entry_setQueue k _ e'

@[simp] theorem State.withdrawnOf_dropQueue (s : State) (k : Level) (e : EntryNo) (t : Taker) :
    (s.dropQueue k e).withdrawnOf t = s.withdrawnOf t := s.withdrawnOf_setQueue k _ t

/-! ### The end of a service by DONE (R15, R16, R18) -/

/-- The level an entry has when its service ends: the staged one, if any (R15). -/
def Service.endLevel (v : Service) (b : Entry) : Level := v.stagedLevel.getD b.level

/-- What a DONE answered OK makes of the record. -/
def Entry.finished (b : Entry) : Option Entry :=
  match b.phase with
  | .held v =>
    some
      { b.leave v (if v.stagedDormancy then .dormant else if v.again then .raised else .armed) with
        reoffered := false }
  | .retiring _ => none
  | .dormant => some b
  | .armed => some b
  | .raised => some b

theorem State.entry_finish (s : State) (t : Taker) (e e' : EntryNo) :
    (s.finish t e).entry e' = if e' = e then (s.entry e).bind Entry.finished else s.entry e' := by
  by_cases h : e' = e
  · subst h
    rw [if_pos rfl]
    cases hb : s.entry e' with
    | none => simp [State.finish, hb]
    | some b =>
      cases hp : b.phase with
      | held v =>
        cases hd : v.stagedDormancy <;> cases ha : v.again <;>
          simp [State.finish, hb, hp, Entry.finished, hd, ha]
      | _ => simp [State.finish, hb, hp, Entry.finished]
  · rw [if_neg h, s.finish_other t e e' (Ne.symm h)]

theorem State.stack_finish (s : State) (t : Taker) (e : EntryNo) (t' : Taker) :
    (s.finish t e).stack t' = if t' = t then (s.stack t).erase e else s.stack t' := by
  rw [← State.stack_dropStack]
  cases hb : s.entry e with
  | none => simp [State.finish, hb]
  | some b =>
    cases hp : b.phase with
    | held v =>
      cases hd : v.stagedDormancy <;> cases ha : v.again <;> simp [State.finish, hb, hp, hd, ha]
    | _ => simp [State.finish, hb, hp]

/-- A HELD entry whose dormancy is not staged and whose again flag is set joins its queue's tail. -/
theorem State.queue_finish_again {s : State} {e : EntryNo} {b : Entry} {v : Service}
    (hb : s.entry e = some b) (hp : b.phase = .held v) (hd : v.stagedDormancy = false)
    (ha : v.again = true) (hk : v.endLevel b ≠ 0) (t : Taker) (k : Level) :
    (s.finish t e).queue k =
      if k = v.endLevel b then s.queue (v.endLevel b) ++ [e] else s.queue k := by
  simp only [State.finish, hb, hp, hd, ha, Bool.false_eq_true, if_false, if_true]
  exact queue_pushTail hk e k

/-- Every other end of a service leaves the queues as they stand. -/
theorem State.queues_finish_other {s : State} {e : EntryNo} {b : Entry} (hb : s.entry e = some b)
    (h : ∀ v, b.phase = .held v → v.stagedDormancy = false → v.again = false) (t : Taker) :
    (s.finish t e).queues = s.queues := by
  cases hp : b.phase with
  | held v =>
    cases hd : v.stagedDormancy with
    | true => simp [State.finish, hb, hp, hd]
    | false => simp [State.finish, hb, hp, hd, h v hp hd]
  | _ => simp [State.finish, hb, hp]

/-! ### The return of a service: YIELD, withdrawal and TRESET (R15, R17, R18) -/

/-- What a return to waiting makes of the record. -/
def Entry.returned (b : Entry) : Option Entry :=
  match b.phase with
  | .held v =>
    if v.stagedDormancy then some (b.leave v .dormant)
    else some { b.leave v .raised with reoffered := true }
  | .retiring _ => none
  | .dormant => some b
  | .armed => some b
  | .raised => some b

theorem State.entry_giveBack (s : State) (t : Taker) (e e' : EntryNo) :
    (s.giveBack t e).entry e' = if e' = e then (s.entry e).bind Entry.returned else s.entry e' := by
  by_cases h : e' = e
  · subst h
    rw [if_pos rfl]
    cases hb : s.entry e' with
    | none => simp [State.giveBack, hb]
    | some b =>
      cases hp : b.phase with
      | held v =>
        cases hd : v.stagedDormancy <;> simp [State.giveBack, hb, hp, Entry.returned, hd]
      | _ => simp [State.giveBack, hb, hp, Entry.returned]
  · rw [if_neg h, s.giveBack_other t e e' (Ne.symm h)]

theorem State.stack_giveBack (s : State) (t : Taker) (e : EntryNo) (t' : Taker) :
    (s.giveBack t e).stack t' = if t' = t then (s.stack t).erase e else s.stack t' := by
  rw [← State.stack_dropStack]
  cases hb : s.entry e with
  | none => simp [State.giveBack, hb]
  | some b =>
    cases hp : b.phase with
    | held v => cases hd : v.stagedDormancy <;> simp [State.giveBack, hb, hp, hd]
    | _ => simp [State.giveBack, hb, hp]

/-- A HELD entry whose dormancy is not staged returns to the head of its queue. -/
theorem State.queue_giveBack_held {s : State} {e : EntryNo} {b : Entry} {v : Service}
    (hb : s.entry e = some b) (hp : b.phase = .held v) (hd : v.stagedDormancy = false)
    (hk : v.endLevel b ≠ 0) (t : Taker) (k : Level) :
    (s.giveBack t e).queue k =
      if k = v.endLevel b then e :: s.queue (v.endLevel b) else s.queue k := by
  simp only [State.giveBack, hb, hp, hd, Bool.false_eq_true, if_false]
  exact queue_pushHead hk e k

/-- Every other return leaves the queues as they stand. -/
theorem State.queues_giveBack_other {s : State} {e : EntryNo}
    (h : ∀ b v, s.entry e = some b → b.phase = .held v → v.stagedDormancy = true) (t : Taker) :
    (s.giveBack t e).queues = s.queues := by
  cases hb : s.entry e with
  | none => simp [State.giveBack, hb]
  | some b =>
    cases hp : b.phase with
    | held v => simp [State.giveBack, hb, hp, h b v hb hp]
    | _ => simp [State.giveBack, hb, hp]

theorem State.withdrawnOf_giveBack (s : State) (t : Taker) (e : EntryNo) (t' : Taker) :
    (s.giveBack t e).withdrawnOf t' = s.withdrawnOf t' := by
  rw [State.giveBack_frame]; rfl

theorem State.withdrawnOf_finish (s : State) (t : Taker) (e : EntryNo) (t' : Taker) :
    (s.finish t e).withdrawnOf t' = s.withdrawnOf t' := by
  rw [State.finish_frame]; rfl

/-! ### Freeing (R19) -/

theorem State.entry_free (s : State) (e e' : EntryNo) :
    (s.free e).entry e' = if e' = e then none else s.entry e' := by
  by_cases h : e' = e
  · subst h; rw [if_pos rfl, State.free_entry]
  · rw [if_neg h, s.free_other e e' (Ne.symm h)]

theorem State.queue_free {s : State} {e : EntryNo} {b : Entry} (hb : s.entry e = some b)
    (k : Level) :
    (s.free e).queue k =
      if b.phase = .raised ∧ k = b.level then (s.queue k).erase e else s.queue k := by
  cases hp : b.phase with
  | raised =>
    simp only [State.free, hb, hp, State.queue_setEntry, queue_dropQueue, true_and]
    split
    · subst_vars; rfl
    · rfl
  | _ => simp [State.free, hb, hp]

theorem State.stack_free {s : State} {e : EntryNo} {b : Entry} (hb : s.entry e = some b)
    (t : Taker) :
    (s.free e).stack t =
      if b.service.map Service.holder = some t then (s.stack t).erase e else s.stack t := by
  cases hp : b.phase with
  | held v =>
    simp only [State.free, hb, hp, State.stack_setEntry, State.stack_dropStack, Entry.service,
      Option.map_some, Option.some.injEq, eq_comm (a := t)]
    split
    · subst_vars; rfl
    · rfl
  | retiring v =>
    simp only [State.free, hb, hp, State.stack_setEntry, State.stack_dropStack, Entry.service,
      Option.map_some, Option.some.injEq, eq_comm (a := t)]
    split
    · subst_vars; rfl
    · rfl
  | _ => simp [State.free, hb, hp, Entry.service]

theorem State.withdrawnOf_free (s : State) (e : EntryNo) (t : Taker) :
    (s.free e).withdrawnOf t = s.withdrawnOf t := by
  rw [State.free_frame]; rfl

/-! ### A claim (R14, R40, R80) -/

theorem State.entry_take {s : State} {e : EntryNo} {b : Entry} (hb : s.entry e = some b) (t : Taker)
    (e' : EntryNo) :
    (s.take t e).entry e' =
      if e' = e then some { b with phase := .held (s.newService t b.limitClass) }
      else s.entry e' := by
  by_cases h : e' = e
  · subst h; rw [if_pos rfl, s.take_entry t e' b hb]
  · rw [if_neg h, s.take_other t e e' (Ne.symm h)]

theorem State.queue_take {s : State} {e : EntryNo} {b : Entry} (hb : s.entry e = some b) (t : Taker)
    (k : Level) :
    (s.take t e).queue k = if k = b.level then (s.queue k).erase e else s.queue k := by
  simp only [State.take, hb, State.queue_setWithdrawn, State.queue_setStack, State.queue_setEntry,
    queue_dropQueue]
  split
  · subst_vars; rfl
  · rfl

theorem State.stack_take_of {s : State} {e : EntryNo} {b : Entry} (hb : s.entry e = some b)
    (t t' : Taker) :
    (s.take t e).stack t' = if t' = t then e :: s.stack t else s.stack t' := by
  simp only [State.take, hb, State.stack_setWithdrawn, State.stack_setStack, eq_comm (a := t),
    State.stack_setEntry, State.stack_dropQueue]

theorem State.withdrawnOf_take {s : State} {e : EntryNo} {b : Entry} (hb : s.entry e = some b)
    (t t' : Taker) :
    (s.take t e).withdrawnOf t' =
      if t' = t then (s.withdrawnOf t).erase e else s.withdrawnOf t' := by
  simp only [State.take, hb, State.withdrawnOf_setWithdrawn, eq_comm (a := t),
    State.withdrawnOf_setStack, State.withdrawnOf_setEntry, State.withdrawnOf_dropQueue]

/-! ### An accepted AMEND (R22 to R25, R33) -/

/-- The level an AMEND gives, where it acts at once. -/
def AmendRecord.newLevel (f : AmendRecord) (b : Entry) : Level := f.level.getD b.level

/-- What an accepted AMEND makes of the record. -/
def AmendRecord.amended (f : AmendRecord) (b : Entry) : Entry :=
  match b.phase with
  | .dormant =>
    { f.applyFields b with
      level := f.newLevel b, phase := if f.enable = some true then .armed else .dormant }
  | .armed =>
    { f.applyFields b with
      level := f.newLevel b, phase := if f.enable = some false then .dormant else .armed }
  | .raised =>
    { f.applyFields b with
      level := f.newLevel b, phase := if f.enable = some false then .dormant else .raised }
  | .held v => { f.applyFields b with phase := .held (f.stage b v) }
  | .retiring _ => b

theorem State.entry_amendEntry {s : State} {e : EntryNo} {b : Entry} (hb : s.entry e = some b)
    (f : AmendRecord) (e' : EntryNo) :
    (s.amendEntry f e b).entry e' = if e' = e then some (f.amended b) else s.entry e' := by
  simp only [eq_comm (a := e')]
  rw [← State.entry_setEntry]
  cases hp : b.phase with
  | dormant => simp [State.amendEntry, AmendRecord.amended, hp, AmendRecord.newLevel]
  | armed => simp [State.amendEntry, AmendRecord.amended, hp, AmendRecord.newLevel]
  | raised =>
    have hphase : (f.applyFields b).phase = .raised := hp
    simp only [State.amendEntry, AmendRecord.amended, hp, AmendRecord.newLevel]
    split
    · simp [State.entry_setEntry]
    · split
      · rename_i h
        rw [h, ← hphase, ← show (f.applyFields b).level = b.level from rfl]
      · simp [State.entry_setEntry, ← hphase]
  | held v => simp [State.amendEntry, AmendRecord.amended, hp]
  | retiring v =>
    by_cases h : e = e'
    · subst h; simp [State.amendEntry, AmendRecord.amended, hp, hb]
    · simp [State.amendEntry, hp, State.entry_setEntry_ne, h]

@[simp] theorem State.stack_amendEntry (s : State) (f : AmendRecord) (e : EntryNo) (b : Entry)
    (t : Taker) : (s.amendEntry f e b).stack t = s.stack t := by
  simp only [State.amendEntry]
  split
  case h_3 =>
    split
    · simp
    · split <;> simp
  all_goals simp

/-- An AMEND of an entry that is not RAISED touches no queue. -/
theorem State.queues_amendEntry_of_not_raised {b : Entry} (hp : b.phase ≠ .raised) (s : State)
    (f : AmendRecord) (e : EntryNo) : (s.amendEntry f e b).queues = s.queues := by
  simp only [State.amendEntry]
  split
  case h_3 => exact absurd ‹_› hp
  all_goals rfl

/-- A RAISED entry leaves its queue when it is disabled or its level changes, and joins the tail of its new
level's queue in the second case (R33). -/
theorem State.queue_amendEntry_raised {b : Entry} (hp : b.phase = .raised) (s : State)
    {f : AmendRecord} (e : EntryNo) (hk : f.newLevel b ≠ 0) (k : Level) :
    (s.amendEntry f e b).queue k =
      if f.enable = some false then if k = b.level then (s.queue k).erase e else s.queue k
      else if f.newLevel b = b.level then s.queue k
      else if k = b.level then (s.queue k).erase e
      else if k = f.newLevel b then s.queue k ++ [e] else s.queue k := by
  have hdrop : ∀ k, (s.dropQueue b.level e).queue k =
      if k = b.level then (s.queue k).erase e else s.queue k := by
    intro k
    rw [queue_dropQueue]
    split
    · subst_vars; rfl
    · rfl
  simp only [State.amendEntry, hp]
  split
  · exact hdrop k
  · change State.queue (if f.newLevel b = b.level then _ else _) k = _
    split
    · rfl
    · rename_i hne
      change State.queue (State.pushTail _ (f.newLevel b) e) k = _
      rw [queue_pushTail hk, State.queue_setEntry, State.queue_setEntry, hdrop, hdrop, if_neg hne]
      by_cases h : k = f.newLevel b
      · subst h; simp [hne]
      · simp [h]

end Sys2Proof.Machine
end

section
/-! PROOFS. The keys of bound entries stay distinct (O59): a BIND alone brings a key in, and it has been compared
with every other (R8, R20). -/

namespace Sys2Proof.Machine

open Sys2Proof.Safety Sys2Proof.Claims

/-! ### The directory as a whole -/

/-- A function applied to every bound record (R81). -/
theorem State.entry_mapEntries (s : State) (f : Entry → Entry) (e : EntryNo) :
    ({ s with entries := mapEntries f s.entries } : State).entry e = (s.entry e).map f := by
  simp [State.entry, mapEntries]

theorem key_withService (b : Entry) (v : Service) : (b.withService v).key = b.key := by
  unfold Entry.withService
  split <;> rfl

theorem key_withLimit (b : Entry) (l : Option RunningLimit) : (b.withLimit l).key = b.key := by
  unfold Entry.withLimit
  split
  · rfl
  · exact key_withService b _

theorem key_tick (b : Entry) : b.tick.key = b.key := by
  unfold Entry.tick
  split
  · rfl
  · exact key_withService b _

theorem key_amended (f : AmendRecord) (b : Entry) : (f.amended b).key = b.key := by
  unfold AmendRecord.amended
  split <;> rfl

/-! ### Keys that stay or go -/

/-- Every key of s' is that of the same entry in s. -/
def KeysFrom (s s' : State) : Prop := ∀ e key, s'.keyOf e = some key → s.keyOf e = some key

theorem SameKeys.keysFrom {s s' : State} (h : SameKeys s s') : KeysFrom s s' := by
  intro e key hkey
  rwa [h e] at hkey

/-- One entry becomes a record of the same key, or none; the others stay. -/
theorem keysFrom_of_entry {s s' : State} {e : EntryNo} {g : Entry → Option Entry}
    (hentry : ∀ e', s'.entry e' = if e' = e then (s.entry e).bind g else s.entry e')
    (hg : ∀ b b', g b = some b' → b'.key = b.key) : KeysFrom s s' := by
  intro e' key hkey
  rw [State.keyOf, hentry] at hkey
  split at hkey
  · subst_vars
    obtain ⟨b', hb', rfl⟩ := Option.map_eq_some_iff.mp hkey
    obtain ⟨b, hb, hgb⟩ := Option.bind_eq_some_iff.mp hb'
    rw [State.keyOf, hb, Option.map_some, hg b b' hgb]
  · exact hkey

/-- One bound entry becomes another record of the same key. -/
theorem keysFrom_setEntry {s s' : State} {e : EntryNo} {b b' : Entry} (hb : s.entry e = some b)
    (hentry : ∀ e', s'.entry e' = if e' = e then some b' else s.entry e')
    (hkey : b'.key = b.key) : KeysFrom s s' := by
  refine keysFrom_of_entry (e := e) (g := fun x => some { b' with key := x.key }) (fun e' => ?_) ?_
  · rw [hentry, hb, Option.bind_some, ← hkey]
  · rintro x _ ⟨⟩
    rfl

theorem KeysFrom.trans {s u s' : State} (h : KeysFrom s u) (h' : KeysFrom u s') : KeysFrom s s' :=
  fun e key hkey => h e key (h' e key hkey)

theorem keysFrom_giveBack (s : State) (t : Taker) (e : EntryNo) : KeysFrom s (s.giveBack t e) := by
  refine keysFrom_of_entry (State.entry_giveBack s t e) fun b b' h => ?_
  unfold Entry.returned at h
  split at h
  case h_1 => split at h <;> (cases h; rfl)
  case h_2 => cases h
  all_goals (cases h; rfl)

theorem keysFrom_free (s : State) (e : EntryNo) : KeysFrom s (s.free e) := by
  refine keysFrom_of_entry (e := e) (g := fun _ => none) (fun e' => ?_) fun b b' h => by cases h
  rw [State.entry_free]
  cases s.entry e <;> rfl

theorem entry_setEntry_flip (s : State) (e : EntryNo) (o : Option Entry) (e' : EntryNo) :
    (s.setEntry e o).entry e' = if e' = e then o else s.entry e' := by
  rw [State.entry_setEntry]
  simp only [eq_comm]

/-- A directory step that is no BIND brings no key in. -/
theorem DirectoryStep.keysFrom {s s' : State} (h : DirectoryStep s s') :
    KeysFrom s s' ∨ ∃ e f, s.entry e = none ∧ s.clashingEntry f.key = none ∧
      s' = s.setEntry e (some (BindRecord.newEntry f)) := by
  cases h with
  | bind e f he hf hkey => exact .inr ⟨e, f, he, hkey, rfl⟩
  | occurrence e => exact .inl (sameKeys_occurrence s e).keysFrom
  | lapse e => exact .inl (sameKeys_lapse s e).keysFrom
  | take t e h =>
    left
    cases hb : s.entry e with
    | none => simp only [State.take, hb]; exact (SameKeys.refl s).keysFrom
    | some b => exact keysFrom_setEntry hb (State.entry_take hb t) rfl
  | finish t e h =>
    refine .inl (keysFrom_of_entry (State.entry_finish s t e) fun b b' h => ?_)
    unfold Entry.finished at h
    split at h
    case h_2 => cases h
    all_goals (cases h; rfl)
  | giveBack t e h => exact .inl (keysFrom_giveBack s t e)
  | giveBackAll t =>
    left
    have hfold : ∀ (l : List EntryNo) (s : State),
        KeysFrom s (l.foldl (fun s e => s.giveBack t e) s) := by
      intro l
      induction l with
      | nil => exact fun s => (SameKeys.refl s).keysFrom
      | cons e l ih => exact fun s => (keysFrom_giveBack s t e).trans (ih _)
    exact hfold (s.stack t) s
  | withdraw e b v hb hv => exact .inl (keysFrom_giveBack _ _ e)
  | shorten t l h => exact .inl (SameKeys.refl s).keysFrom
  | free e => exact .inl (keysFrom_free s e)
  | amend f b hf hb hs =>
    exact .inl (keysFrom_setEntry hb (State.entry_amendEntry hb f) (key_amended f b))
  | retire e b hb =>
    left
    unfold State.retireEntry
    split
    · exact keysFrom_free s e
    · exact keysFrom_free s e
    · exact keysFrom_free s e
    · exact keysFrom_setEntry hb (entry_setEntry_flip s e _) rfl
    · exact (SameKeys.refl s).keysFrom
  | firstExpiry e b v l h =>
    exact .inl (keysFrom_setEntry (outstanding_eq_some h).1 (entry_setEntry_flip s e _)
      (key_withService b _))
  | dropExpiry e b v l o h ho =>
    exact .inl (keysFrom_setEntry (outstanding_eq_some h).1 (entry_setEntry_flip s e _)
      (key_withLimit b _))
  | tick =>
    left
    intro e key hkey
    rw [State.keyOf, State.entry_mapEntries, Option.map_map] at hkey
    rw [← hkey, State.keyOf]
    exact congrArg (Option.map · _) (funext fun b => (key_tick b).symm)

/-! ### Keys that do not clash -/

theorem Key.clash_comm (key key' : Key) : key.clash key' = key'.clash key := by
  cases key with
  | posted c =>
    cases key' with
    | posted c' => exact BEq.comm
    | wire n k m => cases m <;> rfl
  | wire n k m =>
    cases key' with
    | posted c => cases m <;> rfl
    | wire n' k' m' =>
      cases m <;> cases m' <;> simp [Key.clash, beq_eq_decide, eq_comm]

theorem clashingEntry_eq_none {s : State} {key : Key} :
    s.clashingEntry key = none ↔ ∀ e b, s.entry e = some b → key.clash b.key = false := by
  simp only [State.clashingEntry, allEntries, List.find?_eq_none, List.mem_finRange, true_implies]
  constructor
  · intro h e b hb
    simpa [State.keyClashes, hb] using h e
  · intro h e
    unfold State.keyClashes
    split
    · simp
    · simpa using h e _ ‹_›

theorem keysDistinct_iff {s : State} :
    KeysDistinct s ↔ ∀ (e e' : EntryNo) (key key' : Key),
      s.keyOf e = some key → s.keyOf e' = some key' → e ≠ e' → key.clash key' = false := by
  constructor
  · intro h e e' key key' hkey hkey' hne
    obtain ⟨b, hb, rfl⟩ := Option.map_eq_some_iff.mp hkey
    obtain ⟨b', hb', rfl⟩ := Option.map_eq_some_iff.mp hkey'
    exact h e e' b b' hb hb' hne
  · intro h e e' b b' hb hb' hne
    exact h e e' b.key b'.key (by rw [State.keyOf, hb]; rfl) (by rw [State.keyOf, hb']; rfl) hne

theorem KeysFrom.keysDistinct {s s' : State} (h : KeysFrom s s') (hs : KeysDistinct s) :
    KeysDistinct s' := by
  rw [keysDistinct_iff] at hs ⊢
  intro e e' key key' hkey hkey' hne
  exact hs e e' key key' (h e key hkey) (h e' key' hkey') hne

/-- A record whose key clashes with none may be bound (R20). -/
theorem keysDistinct_bind {s : State} {e : EntryNo} {f : BindRecord} (hs : KeysDistinct s)
    (hkey : s.clashingEntry f.key = none) :
    KeysDistinct (s.setEntry e (some f.newEntry)) := by
  rw [clashingEntry_eq_none] at hkey
  intro x x' b b' hb hb' hne
  rw [entry_setEntry_flip] at hb hb'
  split at hb
  · cases hb
    rw [if_neg (by rintro rfl; exact hne (by assumption))] at hb'
    exact hkey x' b' hb'
  · split at hb'
    · cases hb'
      rw [Key.clash_comm]
      exact hkey x b hb
    · exact hs x x' b b' hb hb' hne

theorem DirectoryStep.keysDistinct {s s' : State} (h : DirectoryStep s s') (hs : KeysDistinct s) :
    KeysDistinct s' := by
  rcases h.keysFrom with hfrom | ⟨e, f, -, hkey, rfl⟩
  · exact hfrom.keysDistinct hs
  · exact keysDistinct_bind hs hkey

theorem PartStep.keysDistinct {s s' : State} (h : PartStep s s') (hs : KeysDistinct s) :
    KeysDistinct s' := by
  cases h with
  | directory h => exact h.keysDistinct hs
  | _ => exact hs

theorem entry_held (s : State) (e : EntryNo) : s.held.entry e = none := by
  simp [State.held, State.reset, State.entry]

theorem keysDistinct_held (s : State) : KeysDistinct s.held := by
  intro e e' b b' hb
  rw [entry_held] at hb
  cases hb

end Sys2Proof.Machine

namespace Sys2Proof.Claims

open Sys2Proof.Machine

/-- Settles O59: no step but a BIND brings a key in, and that one clashes with none. -/
theorem stepKeepsKeysDistinct : Obligations.StepKeepsKeysDistinct :=
  step_keeps (fun _ _ h => h) keysDistinct_held (fun _ h => h) fun _ _ h => h.keysDistinct

end Sys2Proof.Claims
end

section
/-! PROOFS. What each operation makes of a record keeps it as R3, R5, R18, R79 and R81 say a record stands. -/

namespace Sys2Proof.Machine

open Sys2Proof.Safety Sys2Proof.Claims

/-! ### The service of a record in each phase -/

theorem service_of_held {b : Entry} {v : Service} (h : b.phase = .held v) : b.service = some v := by
  simp [Entry.service, h]

theorem service_of_retiring {b : Entry} {v : Service} (h : b.phase = .retiring v) :
    b.service = some v := by
  simp [Entry.service, h]

theorem phase_of_service {b : Entry} {v : Service} (h : b.service = some v) :
    b.phase = .held v ∨ b.phase = .retiring v := by
  cases hp : b.phase <;> simp_all [Entry.service]

/-- A record outside service is right if its level, eligible set and sense are. -/
theorem entryOk_of_no_service {b b' : Entry} (h : EntryOk b) (hl : b'.level ≠ 0)
    (he : b'.eligible = b.eligible) (hk : b'.key = b.key) (hs : b'.sense = b.sense)
    (hp : b'.service = none) : EntryOk b' := by
  obtain ⟨-, heligible, hsense, -, -⟩ := h
  refine ⟨hl, he ▸ heligible, by rwa [hk, hs], by simp [hp], fun v hv => ?_⟩
  rw [service_of_retiring hv] at hp
  cases hp

/-- A record in service is right if its service is. -/
theorem entryOk_of_held {b b' : Entry} (h : EntryOk b) (hl : b'.level = b.level)
    (he : b'.eligible = b.eligible) (hk : b'.key = b.key) (hs : b'.sense = b.sense) {v : Service}
    (hp : b'.phase = .held v) (hv : ServiceOk v) : EntryOk b' := by
  obtain ⟨hlevel, heligible, hsense, -, -⟩ := h
  refine ⟨hl ▸ hlevel, he ▸ heligible, by rwa [hk, hs], fun w hw => ?_, fun w hw => ?_⟩
  · rw [service_of_held hp] at hw
    cases hw
    exact hv
  · rw [hp] at hw
    cases hw

theorem serviceOk_of_entryOk {b : Entry} (h : EntryOk b) {v : Service} (hv : b.service = some v) :
    ServiceOk v := by
  obtain ⟨-, -, -, hservice, -⟩ := h
  exact hservice v hv

theorem endLevel_ne_zero {b : Entry} {v : Service} (h : EntryOk b) (hv : b.service = some v) :
    v.endLevel b ≠ 0 := by
  obtain ⟨-, hstaged, -⟩ := serviceOk_of_entryOk h hv
  unfold Service.endLevel
  cases hs : v.stagedLevel with
  | none => exact h.1
  | some k => exact fun hk => hstaged (by rw [hs]; exact congrArg some hk)

/-! ### Records after the operations -/

theorem entryOk_afterOccurrence {b : Entry} (h : EntryOk b) : EntryOk (afterOccurrence b) := by
  unfold afterOccurrence
  cases hp : b.phase with
  | dormant => exact h
  | armed => exact entryOk_of_no_service h h.1 rfl rfl rfl rfl
  | raised => exact entryOk_of_no_service h h.1 rfl rfl rfl (by simp [Entry.service])
  | held v =>
    obtain ⟨hoverdue, hstaged, hlimit⟩ := serviceOk_of_entryOk h (service_of_held hp)
    exact entryOk_of_held h rfl rfl rfl rfl rfl ⟨hoverdue, hstaged, hlimit⟩
  | retiring v => exact h

theorem entryOk_afterLapse {b : Entry} (h : EntryOk b) : EntryOk (afterLapse b) := by
  unfold afterLapse
  cases hp : b.phase with
  | dormant => exact h
  | armed => exact h
  | raised => exact entryOk_of_no_service h h.1 rfl rfl rfl rfl
  | held v =>
    obtain ⟨hoverdue, hstaged, hlimit⟩ := serviceOk_of_entryOk h (service_of_held hp)
    exact entryOk_of_held h rfl rfl rfl rfl rfl ⟨hoverdue, hstaged, hlimit⟩
  | retiring v => exact h

theorem entryOk_finished {b b' : Entry} (h : EntryOk b) (hb : b.finished = some b') : EntryOk b' := by
  unfold Entry.finished at hb
  cases hp : b.phase with
  | held v =>
    have hl := endLevel_ne_zero h (service_of_held hp)
    rw [hp] at hb
    cases hb
    exact entryOk_of_no_service h hl rfl rfl rfl
      (by cases v.stagedDormancy <;> cases v.again <;> rfl)
  | retiring v => rw [hp] at hb; cases hb
  | _ => rw [hp] at hb; cases hb; exact h

theorem entryOk_returned {b b' : Entry} (h : EntryOk b) (hb : b.returned = some b') : EntryOk b' := by
  unfold Entry.returned at hb
  cases hp : b.phase with
  | held v =>
    have hl := endLevel_ne_zero h (service_of_held hp)
    rw [hp] at hb
    dsimp only at hb
    split at hb <;> (cases hb; exact entryOk_of_no_service h hl rfl rfl rfl rfl)
  | retiring v => rw [hp] at hb; cases hb
  | _ => rw [hp] at hb; cases hb; exact h

/-- A claim begins a service in which nothing has happened, with its limit above 0 (R80). -/
theorem serviceOk_newService {s : State} (hd : ∀ r : Fin 7, (s.limits[r]).duration ≠ 0#16)
    (t : Taker) (k : LimitClass) : ServiceOk (s.newService t k) := by
  refine ⟨by simp [State.newService], by simp [State.newService], fun l hl => ?_⟩
  simp only [State.newService, State.loadLimit] at hl
  split at hl
  · cases hl
  · cases hl
    exact ⟨hd _, nofun⟩

theorem entryOk_take {s : State} (hd : ∀ r : Fin 7, (s.limits[r]).duration ≠ 0#16) {b : Entry}
    (h : EntryOk b) (t : Taker) :
    EntryOk { b with phase := .held (s.newService t b.limitClass) } :=
  entryOk_of_held h rfl rfl rfl rfl rfl (serviceOk_newService hd t b.limitClass)

theorem phase_newEntry (f : BindRecord) :
    f.newEntry.phase = .armed ∨ f.newEntry.phase = .dormant := by
  unfold BindRecord.newEntry
  cases f.armed
  · exact .inr rfl
  · exact .inl rfl

theorem service_newEntry (f : BindRecord) : f.newEntry.service = none := by
  rcases phase_newEntry f with hp | hp <;> simp [Entry.service, hp]

/-- A BIND in range makes a record that is right (R20, R21). -/
theorem entryOk_newEntry {s : State} {f : BindRecord} (hf : bindRecord s = some f) :
    EntryOk f.newEntry := by
  unfold bindRecord at hf
  split at hf
  · split at hf
    · cases hf
    · rename_i hrange
      cases hf
      simp only [not_or, not_and] at hrange
      obtain ⟨hlevel, heligible, hsense⟩ := hrange
      refine ⟨hlevel, heligible, fun hk => ?_, fun v hv => ?_, fun v hv => ?_⟩
      · have hbit := Bool.eq_false_iff.mpr (hsense hk)
        simp [BindRecord.newEntry, senseOf, hbit]
      · rw [service_newEntry] at hv
        cases hv
      · have hnone := service_of_retiring hv
        rw [service_newEntry] at hnone
        cases hnone
  · cases hf
  · cases hf

/-- An accepted AMEND names no level 0 and no empty eligible set (R22). -/
theorem amendRecord_inRange {s : State} {f : AmendRecord} (hf : amendRecord s = some f) :
    f.level ≠ some 0 ∧ f.eligible ≠ some 0#4 := by
  unfold amendRecord at hf
  split at hf
  · cases hf
  · split at hf
    · cases hf
    · rename_i hrange
      cases hf
      simp only [not_or, not_and] at hrange
      obtain ⟨-, hlevel, heligible⟩ := hrange
      constructor
      · cases hbit : Bits.bit s.cmd[2] 0 <;> simp_all [named]
      · cases hbit : Bits.bit s.cmd[2] 2 <;> simp_all [named]

theorem newLevel_ne_zero {s : State} {f : AmendRecord} (hf : amendRecord s = some f) {b : Entry}
    (hb : b.level ≠ 0) : f.newLevel b ≠ 0 := by
  have hlevel := (amendRecord_inRange hf).1
  unfold AmendRecord.newLevel
  cases hl : f.level with
  | none => exact hb
  | some k => exact fun hk => hlevel (by rw [hl]; exact congrArg some hk)

theorem serviceOk_stage {s : State} {f : AmendRecord} (hf : amendRecord s = some f) {b : Entry}
    {v : Service} (h : ServiceOk v) : ServiceOk (f.stage b v) := by
  obtain ⟨hoverdue, hstaged, hlimit⟩ := h
  refine ⟨hoverdue, ?_, hlimit⟩
  have hlevel := (amendRecord_inRange hf).1
  unfold AmendRecord.stage
  dsimp only
  split
  · exact hstaged
  · split
    · simp
    · rename_i h _
      rwa [← h]

theorem entryOk_amended {s : State} {f : AmendRecord} {b : Entry} (hf : amendRecord s = some f)
    (hs : ¬ (f.sense = some .level ∧ b.key.isPosted = true)) (h : EntryOk b) :
    EntryOk (f.amended b) := by
  have hbase := h
  obtain ⟨hlevel, heligible, hsense, -, -⟩ := hbase
  have hlevel' := newLevel_ne_zero hf hlevel
  have heligible' : f.eligible.getD b.eligible ≠ 0#4 := by
    have hne := (amendRecord_inRange hf).2
    cases he : f.eligible with
    | none => exact heligible
    | some m => exact fun hm => hne (by rw [he]; exact congrArg some hm)
  have hsense' : b.key.isPosted = true → f.sense.getD b.sense = .edge := by
    intro hk
    cases hfs : f.sense with
    | none => exact hsense hk
    | some x =>
      cases x with
      | edge => rfl
      | level => exact absurd ⟨hfs, hk⟩ hs
  have houtside : ∀ p : Phase, (∀ v, p ≠ .held v) → (∀ v, p ≠ .retiring v) →
      EntryOk { f.applyFields b with level := f.newLevel b, phase := p } := by
    intro p hheld hretiring
    refine ⟨hlevel', heligible', hsense', fun v hv => ?_, fun v hv => absurd hv (hretiring v)⟩
    rcases phase_of_service hv with hp | hp
    · exact absurd hp (hheld v)
    · exact absurd hp (hretiring v)
  unfold AmendRecord.amended
  cases hp : b.phase with
  | dormant => exact houtside _ (by intro v; split <;> nofun) (by intro v; split <;> nofun)
  | armed => exact houtside _ (by intro v; split <;> nofun) (by intro v; split <;> nofun)
  | raised => exact houtside _ (by intro v; split <;> nofun) (by intro v; split <;> nofun)
  | held v =>
    refine ⟨hlevel, heligible', hsense', fun w hw => ?_, nofun⟩
    cases hw
    exact serviceOk_stage hf (serviceOk_of_entryOk h (service_of_held hp))
  | retiring v => exact h

theorem entryOk_retire {b : Entry} {v : Service} (h : EntryOk b) (hp : b.phase = .held v) :
    EntryOk { b with phase := .retiring v.retire } := by
  obtain ⟨hoverdue, hstaged, hlimit⟩ := serviceOk_of_entryOk h (service_of_held hp)
  obtain ⟨hlevel, heligible, hsense, -, -⟩ := h
  refine ⟨hlevel, heligible, hsense, fun w hw => ?_, fun w hw => ?_⟩
  · cases hw
    exact ⟨hoverdue, hstaged, hlimit⟩
  · cases hw
    exact ⟨rfl, rfl⟩

/-! ### A service replaced in place -/

theorem service_withService {b : Entry} {v w : Service} (hv : b.service = some v) :
    (b.withService w).service = some w := by
  rcases phase_of_service hv with hp | hp <;> simp [Entry.withService, Entry.service, hp]

theorem level_withService (b : Entry) (v : Service) : (b.withService v).level = b.level := by
  unfold Entry.withService
  split <;> rfl

theorem isRaised_withService (b : Entry) (v : Service) : (b.withService v).isRaised = b.isRaised := by
  cases hp : b.phase <;> simp [Entry.withService, Entry.isRaised, hp]

theorem entryOk_withService {b : Entry} {v w : Service} (h : EntryOk b) (hv : b.service = some v)
    (hw : ServiceOk w) (hagain : w.again = v.again) (hdormancy : w.stagedDormancy = v.stagedDormancy) :
    EntryOk (b.withService w) := by
  have hbase := h
  obtain ⟨hlevel, heligible, hsense, -, hretiring⟩ := hbase
  rcases phase_of_service hv with hp | hp
  · have heq : b.withService w = { b with phase := .held w } := by simp [Entry.withService, hp]
    rw [heq]
    exact entryOk_of_held h rfl rfl rfl rfl rfl hw
  · have heq : b.withService w = { b with phase := .retiring w } := by simp [Entry.withService, hp]
    rw [heq]
    refine ⟨hlevel, heligible, hsense, fun x hx => ?_, fun x hx => ?_⟩
    · cases hx
      exact hw
    · cases hx
      rw [hagain, hdormancy]
      exact hretiring v hp

theorem withLimit_eq {b : Entry} {v : Service} (hv : b.service = some v) (o : Option RunningLimit) :
    b.withLimit o = b.withService { v with limit := o } := by
  simp [Entry.withLimit, hv]

theorem serviceOk_afterFirstExpiry {s : State}
    (hd : ∀ r : Fin 7, (s.limits[r]).duration ≠ 0#16) {v : Service} (h : ServiceOk v)
    (l : RunningLimit) : ServiceOk (s.afterFirstExpiry v l) := by
  obtain ⟨-, hstaged, -⟩ := h
  refine ⟨⟨fun _ => rfl, fun _ => rfl⟩, hstaged, fun l' hl' => ?_⟩
  simp only [State.afterFirstExpiry] at hl'
  split at hl'
  · cases hl'
  · cases hl'
    exact ⟨hd _, nofun⟩

/-- A tick leaves a running limit above 0, and at 1 where it expires (R81). -/
theorem serviceOk_tick {v : Service} (h : ServiceOk v) :
    ServiceOk { v with limit := v.limit.map RunningLimit.tick } := by
  obtain ⟨hoverdue, hstaged, hlimit⟩ := h
  refine ⟨hoverdue, hstaged, fun l' hl' => ?_⟩
  obtain ⟨l, hl, rfl⟩ := Option.map_eq_some_iff.mp hl'
  obtain ⟨hne, hexpired⟩ := hlimit l hl
  unfold RunningLimit.tick
  split
  · refine ⟨by bv_omega, fun he => ?_⟩
    have := hexpired he
    bv_omega
  · exact ⟨hne, fun _ => by bv_omega⟩

end Sys2Proof.Machine
end

section
/-! PROOFS. Every step of the directory keeps queues, stacks and withdrawn lists matched with the entries
(R29, R52, R65): what each kind of change needs, then step by step. -/

namespace Sys2Proof.Machine

open Sys2Proof.Safety Sys2Proof.Claims

/-! ### The level a record queues at and the taker that holds it -/

/-- The level of a RAISED record. -/
def raisedLevel (o : Option Entry) : Option Level :=
  o.bind fun b => if b.isRaised then some b.level else none

/-- The holder of a record in service. -/
def holderOf (o : Option Entry) : Option Taker := (o.bind Entry.service).map Service.holder

theorem raisedAt_iff {s : State} {k : Level} {e : EntryNo} :
    raisedAt s k e = true ↔ raisedLevel (s.entry e) = some k := by
  unfold raisedAt raisedLevel
  cases s.entry e with
  | none => simp
  | some b => cases hr : b.isRaised <;> simp [hr]

theorem heldBy_iff {s : State} {t : Taker} {e : EntryNo} :
    heldBy s t e = true ↔ holderOf (s.entry e) = some t := by
  unfold heldBy holderOf
  cases s.entry e with
  | none => simp
  | some b => cases hv : b.service <;> simp [hv]

theorem queuesMatch_iff {s : State} :
    QueuesMatch s ↔ ∀ k e, (s.queue k).count e = if raisedLevel (s.entry e) = some k then 1 else 0 := by
  simp only [QueuesMatch, raisedAt_iff]

theorem stacksMatch_iff {s : State} :
    StacksMatch s ↔ ∀ t e, (s.stack t).count e = if holderOf (s.entry e) = some t then 1 else 0 := by
  simp only [StacksMatch, heldBy_iff]

theorem raisedLevel_of_raised {b : Entry} (h : b.phase = .raised) :
    raisedLevel (some b) = some b.level := by
  simp [raisedLevel, Entry.isRaised, h]

theorem raisedLevel_of_not_raised {b : Entry} (h : b.phase ≠ .raised) :
    raisedLevel (some b) = none := by
  cases hp : b.phase <;> simp_all [raisedLevel, Entry.isRaised]

theorem holderOf_of_service {b : Entry} {v : Service} (h : b.service = some v) :
    holderOf (some b) = some v.holder := by
  simp [holderOf, h]

theorem holderOf_of_no_service {b : Entry} (h : b.service = none) : holderOf (some b) = none := by
  simp [holderOf, h]

/-! ### What the stacks say -/

theorem stack_nodup {s : State} (h : StacksMatch s) (t : Taker) : (s.stack t).Nodup := by
  rw [List.nodup_iff_count_le_one]
  intro e
  rw [stacksMatch_iff.mp h]
  split <;> omega

/-- An entry stands on a stack exactly if its holder's it is (R52). -/
theorem mem_stack_iff {s : State} (h : StacksMatch s) {t : Taker} {e : EntryNo} :
    e ∈ s.stack t ↔ holderOf (s.entry e) = some t := by
  rw [← List.one_le_count_iff, stacksMatch_iff.mp h]
  split <;> simp [*]

/-- The entry on a stack is bound and in service. -/
theorem bound_of_mem_stack {s : State} (h : StacksMatch s) {t : Taker} {e : EntryNo}
    (he : e ∈ s.stack t) : ∃ b v, s.entry e = some b ∧ b.service = some v ∧ v.holder = t := by
  have hholder := (mem_stack_iff h).mp he
  unfold holderOf at hholder
  obtain ⟨v, hv, hvt⟩ := Option.map_eq_some_iff.mp hholder
  obtain ⟨b, hb, hbv⟩ := Option.bind_eq_some_iff.mp hv
  exact ⟨b, v, hb, hbv, hvt⟩

theorem mem_queue_iff {s : State} (h : QueuesMatch s) {k : Level} {e : EntryNo} :
    e ∈ s.queue k ↔ raisedLevel (s.entry e) = some k := by
  rw [← List.one_le_count_iff, queuesMatch_iff.mp h]
  split <;> simp [*]

theorem queue_nodup {s : State} (h : QueuesMatch s) (k : Level) : (s.queue k).Nodup := by
  rw [List.nodup_iff_count_le_one]
  intro e
  rw [queuesMatch_iff.mp h]
  split <;> omega

/-! ### Queues: an entry that leaves, that joins, that stays -/

section Queues

variable {s s' : State} {e : EntryNo} (hs : QueuesMatch s)
  (hother : ∀ e', e' ≠ e → s'.entry e' = s.entry e')

include hs hother

theorem queuesMatch_stay (hqueue : ∀ k, s'.queue k = s.queue k)
    (he : raisedLevel (s'.entry e) = raisedLevel (s.entry e)) : QueuesMatch s' := by
  rw [queuesMatch_iff] at hs ⊢
  intro k e'
  rw [hqueue, hs]
  by_cases h : e' = e
  · rw [h, he]
  · rw [hother e' h]

theorem queuesMatch_leave {j : Level} (hj : raisedLevel (s.entry e) = some j)
    (hqueue : ∀ k, s'.queue k = if k = j then (s.queue k).erase e else s.queue k)
    (he : raisedLevel (s'.entry e) = none) : QueuesMatch s' := by
  rw [queuesMatch_iff] at hs ⊢
  intro k e'
  rw [hqueue]
  by_cases h : e' = e
  · subst h
    have hcount := hs k e'
    rw [hj] at hcount
    rw [he]
    split
    · subst_vars
      rw [List.count_erase_self, hcount]
      simp
    · rw [hcount, if_neg (fun h => ‹¬ k = j› (Option.some.inj h).symm)]
      simp
  · rw [hother e' h, ← hs]
    split
    · rw [List.count_erase_of_ne (Ne.symm h).symm]
    · rfl

theorem queuesMatch_join {j : Level} (hj : raisedLevel (s'.entry e) = some j)
    (hqueue : ∀ k, (s'.queue k).Perm (if k = j then e :: s.queue k else s.queue k))
    (he : raisedLevel (s.entry e) = none) : QueuesMatch s' := by
  rw [queuesMatch_iff] at hs ⊢
  intro k e'
  rw [(hqueue k).count_eq]
  by_cases h : e' = e
  · subst h
    have hcount := hs k e'
    rw [he] at hcount
    rw [hj]
    split
    · subst_vars
      rw [List.count_cons_self, hcount]
      simp
    · rw [hcount, if_neg (fun h => ‹¬ k = j› (Option.some.inj h).symm)]
      simp
  · rw [hother e' h, ← hs]
    split
    · rw [List.count_cons_of_ne (Ne.symm h)]
    · rfl

end Queues

/-! ### Stacks: an entry that leaves, that joins, that stays -/

section Stacks

variable {s s' : State} {e : EntryNo} (hs : StacksMatch s)
  (hother : ∀ e', e' ≠ e → s'.entry e' = s.entry e')

include hs hother

theorem stacksMatch_leave {j : Taker} (hj : holderOf (s.entry e) = some j)
    (hstack : ∀ t, s'.stack t = if t = j then (s.stack t).erase e else s.stack t)
    (he : holderOf (s'.entry e) = none) : StacksMatch s' := by
  rw [stacksMatch_iff] at hs ⊢
  intro t e'
  rw [hstack]
  by_cases h : e' = e
  · subst h
    have hcount := hs t e'
    rw [hj] at hcount
    rw [he]
    split
    · subst_vars
      rw [List.count_erase_self, hcount]
      simp
    · rw [hcount, if_neg (fun h => ‹¬ t = j› (Option.some.inj h).symm)]
      simp
  · rw [hother e' h, ← hs]
    split
    · rw [List.count_erase_of_ne (Ne.symm h).symm]
    · rfl

theorem stacksMatch_join {j : Taker} (hj : holderOf (s'.entry e) = some j)
    (hstack : ∀ t, s'.stack t = if t = j then e :: s.stack t else s.stack t)
    (he : holderOf (s.entry e) = none) : StacksMatch s' := by
  rw [stacksMatch_iff] at hs ⊢
  intro t e'
  rw [hstack]
  by_cases h : e' = e
  · subst h
    have hcount := hs t e'
    rw [he] at hcount
    rw [hj]
    split
    · subst_vars
      rw [List.count_cons_self, hcount]
      simp
    · rw [hcount, if_neg (fun h => ‹¬ t = j› (Option.some.inj h).symm)]
      simp
  · rw [hother e' h, ← hs]
    split
    · rw [List.count_cons_of_ne (Ne.symm h)]
    · rfl

end Stacks

/-- Stacks that lose entries stay ordered where the levels of the rest stay (R52). -/
theorem stacksOrdered_of_sublist {s s' : State} (hs : StacksOrdered s)
    (hstack : ∀ t, (s'.stack t).Sublist (s.stack t))
    (hlevel : ∀ t, ∀ x ∈ s'.stack t, levelOf s' x = levelOf s x) : StacksOrdered s' := by
  intro t
  obtain ⟨hlength, hsorted⟩ := hs t
  refine ⟨(hstack t).length_le.trans hlength, ?_⟩
  refine (hsorted.sublist (hstack t)).imp_of_mem fun {hi lo} hhi hlo hlt => ?_
  rw [hlevel t hi hhi, hlevel t lo hlo]
  exact hlt

/-- Withdrawn lists that lose numbers stay right beside stacks that gain none (R65). -/
theorem withdrawnOk_of_sublist {s s' : State} (hs : WithdrawnOk s)
    (hlist : ∀ t, (s'.withdrawnOf t).Sublist (s.withdrawnOf t))
    (hstack : ∀ t, ∀ x ∈ s'.stack t, x ∈ s.stack t) : WithdrawnOk s' := by
  intro t
  obtain ⟨hlength, hnodup, hdisjoint⟩ := hs t
  exact ⟨(hlist t).length_le.trans hlength, hnodup.sublist (hlist t),
    fun x hx hx' => hdisjoint x ((hlist t).subset hx) (hstack t x hx')⟩

theorem entriesOk_of_other {s s' : State} {e : EntryNo} (hs : EntriesOk s)
    (hother : ∀ e', e' ≠ e → s'.entry e' = s.entry e')
    (he : ∀ b, s'.entry e = some b → EntryOk b) : EntriesOk s' := by
  intro e' b hb
  by_cases h : e' = e
  · subst h
    exact he b hb
  · rw [hother e' h] at hb
    exact hs e' b hb

/-- The part of the invariant that the directory keeps (R29, R52, R65, and the records). -/
structure DirectoryOk (s : State) : Prop where
  queues : QueuesMatch s
  serviceStacks : StacksMatch s
  ordered : StacksOrdered s
  withdrawn : WithdrawnOk s
  entries : EntriesOk s

/-! ### The kinds of change -/

/-- Records change where they stand: level, holder and queueing level stay. -/
theorem directoryOk_inPlace {s s' : State} (hs : DirectoryOk s) (hqueues : s'.queues = s.queues)
    (hstacks : s'.serviceStacks = s.serviceStacks) (hwithdrawn : s'.withdrawn = s.withdrawn)
    (hraised : ∀ e, raisedLevel (s'.entry e) = raisedLevel (s.entry e))
    (hholder : ∀ e, holderOf (s'.entry e) = holderOf (s.entry e))
    (hlevel : ∀ e, holderOf (s.entry e) ≠ none → levelOf s' e = levelOf s e)
    (hentries : EntriesOk s') : DirectoryOk s' := by
  have hqueue : ∀ k, s'.queue k = s.queue k := fun k => by simp only [State.queue, hqueues]
  have hstack : ∀ t, s'.stack t = s.stack t := fun t => by simp only [State.stack, hstacks]
  have hlist : ∀ t, s'.withdrawnOf t = s.withdrawnOf t :=
    fun t => by simp only [State.withdrawnOf, hwithdrawn]
  refine ⟨?_, ?_, ?_, ?_, hentries⟩
  · rw [queuesMatch_iff]
    intro k e
    rw [hqueue, hraised, queuesMatch_iff.mp hs.queues]
  · rw [stacksMatch_iff]
    intro t e
    rw [hstack, hholder, stacksMatch_iff.mp hs.serviceStacks]
  · refine stacksOrdered_of_sublist hs.ordered (fun t => by rw [hstack]) fun t x hx => hlevel x ?_
    rw [hstack, mem_stack_iff hs.serviceStacks] at hx
    rw [hx]
    exact Option.some_ne_none t
  · exact withdrawnOk_of_sublist hs.withdrawn (fun t => by rw [hlist]) fun t x hx => by
      rwa [hstack] at hx

/-- One record changes where it stands. -/
theorem directoryOk_setEntry {s s' : State} {e : EntryNo} {b' : Entry} (hs : DirectoryOk s)
    (hqueues : s'.queues = s.queues)
    (hstacks : s'.serviceStacks = s.serviceStacks) (hwithdrawn : s'.withdrawn = s.withdrawn)
    (hentry : ∀ e', s'.entry e' = if e' = e then some b' else s.entry e')
    (hraised : raisedLevel (some b') = raisedLevel (s.entry e))
    (hholder : holderOf (some b') = holderOf (s.entry e))
    (hlevel : holderOf (s.entry e) ≠ none → b'.level = levelOf s e) (hok : EntryOk b') :
    DirectoryOk s' := by
  have hsame : s'.entry e = some b' := by rw [hentry, if_pos rfl]
  have hother : ∀ e', e' ≠ e → s'.entry e' = s.entry e' := fun e' h => by rw [hentry, if_neg h]
  refine directoryOk_inPlace hs hqueues hstacks hwithdrawn (fun e' => ?_) (fun e' => ?_)
    (fun e' hne => ?_) (entriesOk_of_other hs.entries hother fun b hb => ?_)
  · by_cases h : e' = e
    · rw [h, hsame, hraised]
    · rw [hother e' h]
  · by_cases h : e' = e
    · rw [h, hsame, hholder]
    · rw [hother e' h]
  · by_cases h : e' = e
    · subst h
      rw [levelOf, hsame]
      exact hlevel hne
    · rw [levelOf, hother e' h, levelOf]
  · rw [hsame] at hb
    cases hb
    exact hok

/-- A record outside service changes, and with it the queues alone. -/
theorem directoryOk_requeue {s s' : State} {e : EntryNo} (hs : DirectoryOk s)
    (hqueues : QueuesMatch s') (hstacks : ∀ t, s'.stack t = s.stack t)
    (hwithdrawn : ∀ t, s'.withdrawnOf t = s.withdrawnOf t)
    (hother : ∀ e', e' ≠ e → s'.entry e' = s.entry e') (hbefore : holderOf (s.entry e) = none)
    (hafter : holderOf (s'.entry e) = none) (hok : ∀ b, s'.entry e = some b → EntryOk b) :
    DirectoryOk s' := by
  refine ⟨hqueues, ?_, ?_, ?_, entriesOk_of_other hs.entries hother hok⟩
  · rw [stacksMatch_iff]
    intro t e'
    rw [hstacks, stacksMatch_iff.mp hs.serviceStacks]
    by_cases h : e' = e
    · rw [h, hbefore, hafter]
    · rw [hother e' h]
  · refine stacksOrdered_of_sublist hs.ordered (fun t => by rw [hstacks]) fun t x hx => ?_
    have hne : x ≠ e := by
      rintro rfl
      rw [hstacks, mem_stack_iff hs.serviceStacks, hbefore] at hx
      cases hx
    rw [levelOf, hother x hne, levelOf]
  · exact withdrawnOk_of_sublist hs.withdrawn (fun t => by rw [hwithdrawn]) fun t x hx => by
      rwa [hstacks] at hx

/-- A record leaves service, and its number its holder's stack. -/
theorem directoryOk_leave {s s' : State} {e : EntryNo} {t : Taker} (hs : DirectoryOk s)
    (hqueues : QueuesMatch s') (hwithdrawn : WithdrawnOk s')
    (hstack : ∀ t', s'.stack t' = if t' = t then (s.stack t').erase e else s.stack t')
    (hother : ∀ e', e' ≠ e → s'.entry e' = s.entry e') (hbefore : holderOf (s.entry e) = some t)
    (hafter : holderOf (s'.entry e) = none) (hok : ∀ b, s'.entry e = some b → EntryOk b) :
    DirectoryOk s' := by
  have hsublist : ∀ t', (s'.stack t').Sublist (s.stack t') := by
    intro t'
    rw [hstack]
    split
    · exact List.erase_sublist
    · exact List.Sublist.refl _
  have hmatch := stacksMatch_leave hs.serviceStacks hother hbefore hstack hafter
  refine ⟨hqueues, hmatch, ?_, hwithdrawn, entriesOk_of_other hs.entries hother hok⟩
  refine stacksOrdered_of_sublist hs.ordered hsublist fun t' x hx => ?_
  have hne : x ≠ e := by
    rintro rfl
    rw [mem_stack_iff hmatch, hafter] at hx
    cases hx
  rw [levelOf, hother x hne, levelOf]

end Sys2Proof.Machine
end

section
/-! PROOFS. Every step of the directory keeps queues, stacks, withdrawn lists and records right (R29, R52, R65):
step by step. -/

namespace Sys2Proof.Machine

open Sys2Proof.Safety Sys2Proof.Claims

/-! ### Records outside the queues and outside service -/

theorem raisedLevel_of_service {b : Entry} {v : Service} (h : b.service = some v) :
    raisedLevel (some b) = none := by
  refine raisedLevel_of_not_raised ?_
  rcases phase_of_service h with hp | hp <;> simp [hp]

theorem not_mem_stack_of_no_holder {s : State} (hs : DirectoryOk s) {e : EntryNo}
    (h : holderOf (s.entry e) = none) (t : Taker) : e ∉ s.stack t := by
  rw [mem_stack_iff hs.serviceStacks, h]
  exact nofun

/-! ### Occurrences and lapses -/

theorem directoryOk_occurrence {s : State} (hs : DirectoryOk s) (e : EntryNo) :
    DirectoryOk (s.occurrence e) := by
  by_cases hc : s.clearing = true
  · rw [s.occurrence_clearing e hc]
    exact hs
  rw [Bool.not_eq_true] at hc
  cases hb : s.entry e with
  | none => simpa [State.occurrence, hc, hb] using hs
  | some b =>
    have hbok := hs.entries e b hb
    have hentry : ∀ e', (s.occurrence e).entry e' = if e' = e then some (afterOccurrence b)
        else s.entry e' := fun e' => by rw [entry_occurrence hc, hb, Option.map_some]
    have hok := entryOk_afterOccurrence hbok
    cases hp : b.phase with
    | armed =>
      have hafter : (s.occurrence e).entry e = some (afterOccurrence b) := by
        rw [hentry, if_pos rfl]
      have hother : ∀ e', e' ≠ e → (s.occurrence e).entry e' = s.entry e' := fun e' h => by
        rw [hentry, if_neg h]
      refine directoryOk_requeue hs (queuesMatch_join hs.queues hother (j := b.level) ?_
        (fun k => ?_) ?_) (fun t => ?_) (fun t => ?_) hother ?_ ?_ fun b' hb' => ?_
      · rw [hafter]; simp [raisedLevel, afterOccurrence, hp, Entry.isRaised]
      · rw [queue_occurrence hc hb hbok.1]
        simp only [hp, true_and]
        split
        · exact List.perm_append_singleton e _
        · exact .refl _
      · rw [hb, raisedLevel_of_not_raised (by simp [hp])]
      · rw [s.occurrence_frame e]; rfl
      · rw [s.occurrence_frame e]; rfl
      · rw [hb, holderOf_of_no_service (by simp [Entry.service, hp])]
      · rw [hafter, holderOf_of_no_service (by simp [afterOccurrence, hp, Entry.service])]
      · rw [hafter] at hb'; cases hb'; exact hok
    | _ =>
      refine directoryOk_setEntry hs ?_ ?_ ?_ hentry ?_ ?_ ?_ hok <;>
        simp [State.occurrence, hc, hb, hp, afterOccurrence, raisedLevel, holderOf, levelOf,
          Entry.isRaised, Entry.service]

theorem directoryOk_lapse {s : State} (hs : DirectoryOk s) (e : EntryNo) :
    DirectoryOk (s.lapse e) := by
  by_cases hc : s.clearing = true
  · rw [s.lapse_clearing e hc]
    exact hs
  rw [Bool.not_eq_true] at hc
  cases hb : s.entry e with
  | none => simpa [State.lapse, hc, hb] using hs
  | some b =>
    have hbok := hs.entries e b hb
    have hentry : ∀ e', (s.lapse e).entry e' = if e' = e then some (afterLapse b)
        else s.entry e' := fun e' => by rw [entry_lapse hc, hb, Option.map_some]
    have hok := entryOk_afterLapse hbok
    cases hp : b.phase with
    | raised =>
      have hafter : (s.lapse e).entry e = some (afterLapse b) := by
        rw [hentry, if_pos rfl]
      have hother : ∀ e', e' ≠ e → (s.lapse e).entry e' = s.entry e' := fun e' h => by
        rw [hentry, if_neg h]
      refine directoryOk_requeue hs (queuesMatch_leave hs.queues hother (j := b.level) ?_
        (fun k => ?_) ?_) (fun t => ?_) (fun t => ?_) hother ?_ ?_ fun b' hb' => ?_
      · rw [hb, raisedLevel_of_raised hp]
      · rw [queue_lapse hc hb]
        simp only [hp, true_and]
      · rw [hafter, raisedLevel_of_not_raised (by simp [afterLapse, hp])]
      · rw [s.lapse_frame e]; rfl
      · rw [s.lapse_frame e]; rfl
      · rw [hb, holderOf_of_no_service (by simp [Entry.service, hp])]
      · rw [hafter, holderOf_of_no_service (by simp [afterLapse, hp, Entry.service])]
      · rw [hafter] at hb'; cases hb'; exact hok
    | _ =>
      refine directoryOk_setEntry hs ?_ ?_ ?_ hentry ?_ ?_ ?_ hok <;>
        simp [State.lapse, hc, hb, hp, afterLapse, raisedLevel, holderOf, levelOf,
          Entry.isRaised, Entry.service]

/-! ### A claim -/

/-- No entry of a stack is above the top one (R52). -/
theorem levelOf_le_topLevel {s : State} (hs : DirectoryOk s) {t : Taker} {x : EntryNo}
    (hx : x ∈ s.stack t) : levelOf s x ≤ s.topLevel t := by
  obtain ⟨-, hsorted⟩ := hs.ordered t
  have htop : ∀ top rest, s.stack t = top :: rest → s.topLevel t = levelOf s top := by
    intro top rest h
    cases hb : s.entry top <;> simp only [State.topLevel, h, levelOf, hb]
  cases h : s.stack t with
  | nil => rw [h] at hx; cases hx
  | cons top rest =>
    rw [htop top rest h]
    rw [h] at hx hsorted
    rcases List.mem_cons.mp hx with rfl | hrest
    · exact le_refl _
    · exact le_of_lt (List.rel_of_pairwise_cons hsorted hrest)

/-- The offer stands RAISED above every entry of the taker's stack, which has a place left (R36, R37). -/
theorem offer_above_stack {s : State} (hs : DirectoryOk s) {t : Taker} {e : EntryNo}
    (h : s.claimAnswer t = .offer e) :
    ∃ b, s.entry e = some b ∧ b.phase = .raised ∧ (s.stack t).length < 4 ∧
      ∀ x ∈ s.stack t, levelOf s x < b.level := by
  obtain ⟨-, -, hlength, k, before, after, hk, hqueue, -⟩ := claimAnswer_eq_offer_iff.mp h
  have hmem : e ∈ s.queue k := by rw [hqueue]; simp
  have hraised := (mem_queue_iff hs.queues).mp hmem
  unfold raisedLevel at hraised
  obtain ⟨b, hb, hbk⟩ := Option.bind_eq_some_iff.mp hraised
  split at hbk
  · cases hbk
    refine ⟨b, hb, ?_, hlength, fun x hx => ?_⟩
    · cases hp : b.phase <;> simp_all [Entry.isRaised]
    · rw [thresholdOf_eq, ← Fin.lt_def] at hk
      exact (levelOf_le_topLevel hs hx).trans_lt ((le_max_right _ _).trans_lt hk)
  · cases hbk

theorem directoryOk_take {s : State} (hd : ∀ r : Fin 7, (s.limits[r]).duration ≠ 0#16)
    (hs : DirectoryOk s) {t : Taker} {e : EntryNo} (h : s.claimAnswer t = .offer e) :
    DirectoryOk (s.take t e) := by
  obtain ⟨b, hb, hp, hlength, habove⟩ := offer_above_stack hs h
  have hentry := State.entry_take hb t
  have hafter : (s.take t e).entry e =
      some { b with phase := .held (s.newService t b.limitClass) } := by rw [hentry, if_pos rfl]
  have hother : ∀ e', e' ≠ e → (s.take t e).entry e' = s.entry e' := fun e' h => by
    rw [hentry, if_neg h]
  have hholder : holderOf (s.entry e) = none := by
    rw [hb, holderOf_of_no_service (by simp [Entry.service, hp])]
  have hfree := not_mem_stack_of_no_holder hs hholder
  have hlevel : ∀ t', ∀ x ∈ s.stack t', levelOf (s.take t e) x = levelOf s x := by
    intro t' x hx
    rw [levelOf, hother x (by rintro rfl; exact hfree t' hx), levelOf]
  have hstack := State.stack_take_of hb t
  refine ⟨?_, ?_, fun t' => ?_, fun t' => ?_, ?_⟩
  · refine queuesMatch_leave hs.queues hother (j := b.level) ?_ (State.queue_take hb t) ?_
    · rw [hb, raisedLevel_of_raised hp]
    · rw [hafter, raisedLevel_of_not_raised (by simp)]
  · refine stacksMatch_join hs.serviceStacks hother (j := t) ?_ (fun t' => ?_) hholder
    · rw [hafter]; rfl
    · rw [hstack]
      split
      · subst_vars; rfl
      · rfl
  · obtain ⟨hle, hsorted⟩ := hs.ordered t'
    have hkept : (s.stack t').Pairwise
        (fun hi lo => levelOf (s.take t e) lo < levelOf (s.take t e) hi) :=
      hsorted.imp_of_mem fun {hi lo} hhi hlo hlt => by
        rwa [hlevel t' hi hhi, hlevel t' lo hlo]
    rw [hstack]
    split
    · subst_vars
      refine ⟨hlength, List.pairwise_cons.mpr ⟨fun x hx => ?_, hkept⟩⟩
      rw [hlevel _ x hx]
      simpa only [levelOf, hafter] using habove x hx
    · exact ⟨hle, hkept⟩
  · obtain ⟨hle, hnodup, hdisjoint⟩ := hs.withdrawn t'
    rw [hstack, State.withdrawnOf_take hb]
    split
    · subst_vars
      refine ⟨List.erase_sublist.length_le.trans hle, hnodup.erase e, fun x hx hx' => ?_⟩
      obtain ⟨hne, hx⟩ := hnodup.mem_erase_iff.mp hx
      rcases List.mem_cons.mp hx' with rfl | hx'
      · exact hne rfl
      · exact hdisjoint x hx hx'
    · exact ⟨hle, hnodup, hdisjoint⟩
  · refine entriesOk_of_other hs.entries hother fun b' hb' => ?_
    rw [hafter] at hb'
    cases hb'
    exact entryOk_take hd (hs.entries e b hb) t

end Sys2Proof.Machine
end

section
/-! PROOFS. The end of a service, freeing, AMEND, expiries and ticks keep the directory right (R15 to R19, R33,
R81 to R85). -/

namespace Sys2Proof.Machine

open Sys2Proof.Safety Sys2Proof.Claims

/-! ### The end of a service -/

/-- The conditions of a service's end on the record it leaves: it is right and out of service. -/
theorem holderOf_finished {b : Entry} {v : Service} (hv : b.service = some v) :
    holderOf b.finished = none := by
  rcases phase_of_service hv with hp | hp
  · cases hd : v.stagedDormancy <;> cases ha : v.again <;>
      simp [Entry.finished, hp, holderOf, Entry.service, hd, ha, Entry.leave]
  · simp [Entry.finished, hp, holderOf]

theorem holderOf_returned {b : Entry} {v : Service} (hv : b.service = some v) :
    holderOf b.returned = none := by
  rcases phase_of_service hv with hp | hp
  · cases hd : v.stagedDormancy <;>
      simp [Entry.returned, hp, holderOf, Entry.service, hd, Entry.leave]
  · simp [Entry.returned, hp, holderOf]

theorem directoryOk_finish {s : State} (hs : DirectoryOk s) {t : Taker} {e : EntryNo}
    (he : e ∈ s.stack t) : DirectoryOk (s.finish t e) := by
  obtain ⟨b, v, hb, hv, rfl⟩ := bound_of_mem_stack hs.serviceStacks he
  have hbok := hs.entries e b hb
  have hentry := State.entry_finish s v.holder e
  have hafter : (s.finish v.holder e).entry e = b.finished := by
    rw [hentry, if_pos rfl, hb, Option.bind_some]
  have hother : ∀ e', e' ≠ e → (s.finish v.holder e).entry e' = s.entry e' := fun e' h => by
    rw [hentry, if_neg h]
  have hqueued : raisedLevel (s.entry e) = none := by rw [hb, raisedLevel_of_service hv]
  have hstack : ∀ t', (s.finish v.holder e).stack t' =
      if t' = v.holder then (s.stack t').erase e else s.stack t' := fun t' => by
    rw [State.stack_finish]
    split
    · subst_vars; rfl
    · rfl
  refine directoryOk_leave hs ?_ ?_ hstack hother (by rw [hb, holderOf_of_service hv])
    (by rw [hafter, holderOf_finished hv]) fun b' hb' => ?_
  · have hstay : (∀ w, b.phase = .held w → w.stagedDormancy = false → w.again = false) →
        QueuesMatch (s.finish v.holder e) := fun hplaced => by
      have hqueues := State.queues_finish_other hb hplaced v.holder
      refine queuesMatch_stay hs.queues hother (fun k => by simp only [State.queue, hqueues]) ?_
      rw [hqueued, hafter]
      rcases phase_of_service hv with hp | hp
      · cases hd : v.stagedDormancy with
        | true => simp [Entry.finished, hp, hd, raisedLevel, Entry.isRaised, Entry.leave]
        | false =>
          simp [Entry.finished, hp, hd, hplaced v hp hd, raisedLevel, Entry.isRaised, Entry.leave]
      · simp [Entry.finished, hp, raisedLevel]
    rcases phase_of_service hv with hp | hp
    · by_cases hplaced : v.stagedDormancy = false ∧ v.again = true
      · obtain ⟨hd, ha⟩ := hplaced
        refine queuesMatch_join hs.queues hother (j := v.endLevel b) ?_ (fun k => ?_) hqueued
        · rw [hafter]
          simp [Entry.finished, hp, hd, ha, raisedLevel, Entry.isRaised, Entry.leave,
            Service.endLevel]
        · rw [State.queue_finish_again hb hp hd ha (endLevel_ne_zero hbok hv)]
          split
          · subst_vars
            exact List.perm_append_singleton e _
          · exact .refl _
      · refine hstay fun w hw hd => ?_
        rw [hp] at hw
        cases hw
        exact Bool.eq_false_iff.mpr fun ha => hplaced ⟨hd, ha⟩
    · refine hstay fun w hw => ?_
      rw [hp] at hw
      cases hw
  · refine withdrawnOk_of_sublist hs.withdrawn (fun t' => by rw [State.withdrawnOf_finish])
      fun t' x hx => ?_
    rw [hstack] at hx
    split at hx
    · exact List.mem_of_mem_erase hx
    · exact hx
  · rw [hafter] at hb'
    exact entryOk_finished hbok hb'

theorem directoryOk_giveBack {s : State} (hs : DirectoryOk s) {t : Taker} {e : EntryNo}
    (he : e ∈ s.stack t) : DirectoryOk (s.giveBack t e) := by
  obtain ⟨b, v, hb, hv, rfl⟩ := bound_of_mem_stack hs.serviceStacks he
  have hbok := hs.entries e b hb
  have hentry := State.entry_giveBack s v.holder e
  have hafter : (s.giveBack v.holder e).entry e = b.returned := by
    rw [hentry, if_pos rfl, hb, Option.bind_some]
  have hother : ∀ e', e' ≠ e → (s.giveBack v.holder e).entry e' = s.entry e' := fun e' h => by
    rw [hentry, if_neg h]
  have hqueued : raisedLevel (s.entry e) = none := by rw [hb, raisedLevel_of_service hv]
  have hstack : ∀ t', (s.giveBack v.holder e).stack t' =
      if t' = v.holder then (s.stack t').erase e else s.stack t' := fun t' => by
    rw [State.stack_giveBack]
    split
    · subst_vars; rfl
    · rfl
  refine directoryOk_leave hs ?_ ?_ hstack hother (by rw [hb, holderOf_of_service hv])
    (by rw [hafter, holderOf_returned hv]) fun b' hb' => ?_
  · have hstay : (∀ w, b.phase = .held w → w.stagedDormancy = true) →
        QueuesMatch (s.giveBack v.holder e) := fun hplaced => by
      have hqueues := State.queues_giveBack_other (s := s) (e := e) (fun b' w hb' hw => by
        rw [hb] at hb'
        cases hb'
        exact hplaced w hw) v.holder
      refine queuesMatch_stay hs.queues hother (fun k => by simp only [State.queue, hqueues]) ?_
      rw [hqueued, hafter]
      rcases phase_of_service hv with hp | hp
      · simp [Entry.returned, hp, hplaced v hp, raisedLevel, Entry.isRaised, Entry.leave]
      · simp [Entry.returned, hp, raisedLevel]
    rcases phase_of_service hv with hp | hp
    · cases hd : v.stagedDormancy with
      | false =>
        refine queuesMatch_join hs.queues hother (j := v.endLevel b) ?_ (fun k => ?_) hqueued
        · rw [hafter]
          simp [Entry.returned, hp, hd, raisedLevel, Entry.isRaised, Entry.leave,
            Service.endLevel]
        · rw [State.queue_giveBack_held hb hp hd (endLevel_ne_zero hbok hv)]
          split
          · subst_vars; rfl
          · exact .refl _
      | true =>
        refine hstay fun w hw => ?_
        rw [hp] at hw
        cases hw
        exact hd
    · refine hstay fun w hw => ?_
      rw [hp] at hw
      cases hw
  · refine withdrawnOk_of_sublist hs.withdrawn (fun t' => by rw [State.withdrawnOf_giveBack])
      fun t' x hx => ?_
    rw [hstack] at hx
    split at hx
    · exact List.mem_of_mem_erase hx
    · exact hx
  · rw [hafter] at hb'
    exact entryOk_returned hbok hb'

/-! ### The whole stack, and a withdrawal -/

/-- Giving back the entries of a stack one by one empties it. -/
theorem directoryOk_foldl_giveBack (t : Taker) (l : List EntryNo) (s : State) (hs : DirectoryOk s)
    (hl : s.stack t = l) :
    DirectoryOk (l.foldl (fun s e => s.giveBack t e) s) ∧
      (l.foldl (fun s e => s.giveBack t e) s).stack t = [] := by
  induction l generalizing s with
  | nil => exact ⟨hs, hl⟩
  | cons e l ih =>
    refine ih _ (directoryOk_giveBack hs (by rw [hl]; exact List.mem_cons_self)) ?_
    rw [State.stack_giveBack, if_pos rfl, hl, List.erase_cons_head]

theorem State.setStack_self (s : State) (t : Taker) (l : List EntryNo) (h : s.stack t = l) :
    s.setStack t l = s := by
  have hset : s.serviceStacks.set t.val l t.isLt = s.serviceStacks := by
    rw [← h]
    exact Vector.set_getElem_self t.isLt
  rw [State.setStack, hset]

theorem directoryOk_giveBackAll {s : State} (hs : DirectoryOk s) (t : Taker) :
    DirectoryOk (s.giveBackAll t) := by
  obtain ⟨hfold, hempty⟩ := directoryOk_foldl_giveBack t (s.stack t) s hs rfl
  rwa [State.giveBackAll, State.setStack_self _ _ _ hempty]

theorem directoryOk_setWithdrawn {s : State} (hs : DirectoryOk s) (t : Taker) (l : List EntryNo)
    (hlength : l.length ≤ 4) (hnodup : l.Nodup) (hdisjoint : ∀ x ∈ l, x ∉ s.stack t) :
    DirectoryOk (s.setWithdrawn t l) := by
  refine ⟨hs.queues, hs.serviceStacks, hs.ordered, fun t' => ?_, hs.entries⟩
  rw [State.withdrawnOf_setWithdrawn, State.stack_setWithdrawn]
  split
  · subst_vars
    exact ⟨hlength, hnodup, hdisjoint⟩
  · exact hs.withdrawn t'

theorem State.giveBack_setWithdrawn (s : State) (t t' : Taker) (l : List EntryNo) (e : EntryNo) :
    (s.setWithdrawn t' l).giveBack t e = (s.giveBack t e).setWithdrawn t' l := by
  have hentry : (s.setWithdrawn t' l).entry e = s.entry e := rfl
  cases hb : s.entry e with
  | none => simp only [State.giveBack, hentry, hb]; rfl
  | some b =>
    cases hp : b.phase with
    | held v =>
      simp only [State.giveBack, hentry, hb, hp]
      split
      · rfl
      · simp only [State.pushHead, State.setQueue]
        split <;> rfl
    | _ => simp only [State.giveBack, hentry, hb, hp]; rfl

/-- A withdrawal's number joins a list of at most 4, none of which was on the stack (R65, R66). -/
theorem directoryOk_withdraw {s : State} (hs : DirectoryOk s) {e : EntryNo} {b : Entry} {v : Service}
    (hb : s.entry e = some b) (hv : b.service = some v) :
    DirectoryOk
      ((s.setWithdrawn v.holder (appendWithdrawn (s.withdrawnOf v.holder) e)).giveBack v.holder e)
    := by
  have hmem : e ∈ s.stack v.holder := by
    rw [mem_stack_iff hs.serviceStacks, hb, holderOf_of_service hv]
  have hs' := directoryOk_giveBack hs hmem
  have hstack : (s.giveBack v.holder e).stack v.holder = (s.stack v.holder).erase e := by
    rw [State.stack_giveBack, if_pos rfl]
  obtain ⟨hlength, hnodup, hdisjoint⟩ := hs.withdrawn v.holder
  have hnew : e ∉ s.withdrawnOf v.holder := fun h => hdisjoint e h hmem
  have hkept : ∃ l, l.Sublist (s.withdrawnOf v.holder) ∧ l.length < 4 ∧
      appendWithdrawn (s.withdrawnOf v.holder) e = l ++ [e] := by
    unfold appendWithdrawn Config.withdrawnLength
    split
    · exact ⟨_, .refl _, ‹_›, rfl⟩
    · exact ⟨_, List.tail_sublist _, by rw [List.length_tail]; omega, rfl⟩
  obtain ⟨l, hl, hl4, happend⟩ := hkept
  rw [State.giveBack_setWithdrawn, happend]
  refine directoryOk_setWithdrawn hs' _ _ (by simpa using hl4) ?_ fun x hx => ?_
  · refine List.nodup_append.mpr ⟨hnodup.sublist hl, List.nodup_singleton e, fun x hx y hy => ?_⟩
    rw [List.mem_singleton.mp hy]
    rintro rfl
    exact hnew (hl.subset hx)
  · rw [hstack, (stack_nodup hs.serviceStacks _).mem_erase_iff]
    rintro ⟨hne, hon⟩
    rcases List.mem_append.mp hx with hx | hx
    · exact hdisjoint x (hl.subset hx) hon
    · exact hne (List.mem_singleton.mp hx)

/-! ### Freeing and retiring -/

theorem directoryOk_free {s : State} (hs : DirectoryOk s) (e : EntryNo) : DirectoryOk (s.free e) := by
  cases hb : s.entry e with
  | none => rwa [show s.free e = s by simp [State.free, hb]]
  | some b =>
    have hafter : (s.free e).entry e = none := State.free_entry s e
    have hother : ∀ e', e' ≠ e → (s.free e).entry e' = s.entry e' := fun e' h => by
      rw [State.entry_free, if_neg h]
    have hok : ∀ b', (s.free e).entry e = some b' → EntryOk b' := fun b' h => by
      rw [hafter] at h
      cases h
    have hqueues : QueuesMatch (s.free e) := by
      by_cases hp : b.phase = .raised
      · refine queuesMatch_leave hs.queues hother (j := b.level) ?_ (fun k => ?_) (by rw [hafter]; rfl)
        · rw [hb, raisedLevel_of_raised hp]
        · simp only [State.queue_free hb, hp, true_and]
      · refine queuesMatch_stay hs.queues hother (fun k => ?_) ?_
        · simp only [State.queue_free hb, hp, false_and, if_false]
        · rw [hb, hafter, raisedLevel_of_not_raised hp]
          rfl
    cases hv : b.service with
    | none =>
      refine directoryOk_requeue hs hqueues (fun t => ?_) (State.withdrawnOf_free s e) hother
        (by rw [hb, holderOf_of_no_service hv]) (by rw [hafter]; rfl) hok
      rw [State.stack_free hb, hv]
      rfl
    | some v =>
      have hstack : ∀ t, (s.free e).stack t =
          if t = v.holder then (s.stack t).erase e else s.stack t := fun t => by
        rw [State.stack_free hb, hv]
        simp only [Option.map_some, Option.some.injEq, eq_comm (a := t)]
      refine directoryOk_leave hs hqueues ?_ hstack hother (by rw [hb, holderOf_of_service hv])
        (by rw [hafter]; rfl) hok
      refine withdrawnOk_of_sublist hs.withdrawn (fun t => by rw [State.withdrawnOf_free])
        fun t x hx => ?_
      rw [hstack] at hx
      split at hx
      · exact List.mem_of_mem_erase hx
      · exact hx

theorem directoryOk_retire {s : State} (hs : DirectoryOk s) {e : EntryNo} {b : Entry}
    (hb : s.entry e = some b) : DirectoryOk (s.retireEntry e b) := by
  cases hp : b.phase with
  | held v =>
    simp only [State.retireEntry, hp]
    refine directoryOk_setEntry hs rfl rfl rfl (entry_setEntry_flip s e _) ?_ ?_ (fun _ => ?_)
      (entryOk_retire (hs.entries e b hb) hp)
    · simp [hb, raisedLevel, Entry.isRaised, hp]
    · simp [hb, holderOf, Entry.service, hp, Service.retire]
    · simp [levelOf, hb]
  | retiring v => simpa only [State.retireEntry, hp] using hs
  | _ => simp only [State.retireEntry, hp]; exact directoryOk_free hs e

end Sys2Proof.Machine
end

section
/-! PROOFS. AMEND, BIND, expiries and ticks keep the directory right, and with them every step of the part does
(R29, R33, R52, R65, R81). -/

namespace Sys2Proof.Machine

open Sys2Proof.Safety Sys2Proof.Claims

/-! ### AMEND -/

theorem holderOf_amended (f : AmendRecord) (b : Entry) :
    holderOf (some (f.amended b)) = holderOf (some b) := by
  cases hp : b.phase with
  | dormant => simp only [AmendRecord.amended, hp, holderOf]; split <;> simp [Entry.service, hp]
  | armed => simp only [AmendRecord.amended, hp, holderOf]; split <;> simp [Entry.service, hp]
  | raised => simp only [AmendRecord.amended, hp, holderOf]; split <;> simp [Entry.service, hp]
  | held v => simp [AmendRecord.amended, hp, holderOf, Entry.service, AmendRecord.stage]
  | retiring v => simp [AmendRecord.amended, hp]

/-- In service an AMEND leaves the level as it is: a new one is staged (R23, R26). -/
theorem level_amended_of_service {b : Entry} {v : Service} (hv : b.service = some v)
    (f : AmendRecord) : (f.amended b).level = b.level := by
  rcases phase_of_service hv with hp | hp <;> simp [AmendRecord.amended, hp, AmendRecord.applyFields]

theorem State.withdrawnOf_amendEntry (s : State) (f : AmendRecord) (e : EntryNo) (b : Entry)
    (t : Taker) : (s.amendEntry f e b).withdrawnOf t = s.withdrawnOf t := by
  simp only [State.amendEntry]
  split
  case h_3 =>
    split
    · simp
    · split <;> simp [State.pushTail]
  all_goals rfl

/-- An AMEND that does not move the entry between queues. -/
theorem directoryOk_amend_inPlace {s : State} (hs : DirectoryOk s) {e : EntryNo} {b : Entry}
    (hb : s.entry e = some b) {f : AmendRecord} (hqueues : (s.amendEntry f e b).queues = s.queues)
    (hraised : raisedLevel (some (f.amended b)) = raisedLevel (some b))
    (hok : EntryOk (f.amended b)) : DirectoryOk (s.amendEntry f e b) := by
  have hframe : (s.amendEntry f e b).serviceStacks = s.serviceStacks ∧
      (s.amendEntry f e b).withdrawn = s.withdrawn := by
    simp only [State.amendEntry]
    split
    case h_3 =>
      split
      · simp [State.dropQueue]
      · split <;> simp [State.pushTail, State.dropQueue]
    all_goals exact ⟨rfl, rfl⟩
  obtain ⟨hstacks, hwithdrawn⟩ := hframe
  refine directoryOk_setEntry hs hqueues hstacks hwithdrawn (State.entry_amendEntry hb f)
    (by rw [hb, hraised]) (by rw [hb, holderOf_amended]) (fun hheld => ?_) hok
  rw [hb] at hheld
  cases hv : b.service with
  | none => exact absurd (holderOf_of_no_service hv) hheld
  | some v => simp only [levelOf, hb, level_amended_of_service hv]

/-- A RAISED entry that an AMEND disables leaves its queue, and one given another level goes to the tail of
its new queue (R24, R33). -/
theorem queuesMatch_amend_raised {s : State} (hs : QueuesMatch s) {e : EntryNo} {b : Entry}
    (hb : s.entry e = some b) (hp : b.phase = .raised) {f : AmendRecord} (hk : f.newLevel b ≠ 0)
    (hmoves : f.enable = some false ∨ f.newLevel b ≠ b.level) :
    QueuesMatch (s.amendEntry f e b) := by
  have hqueue := State.queue_amendEntry_raised hp s e hk
  have hafter : (s.amendEntry f e b).entry e = some (f.amended b) := by
    rw [State.entry_amendEntry hb, if_pos rfl]
  have hother : ∀ e', e' ≠ e → (s.amendEntry f e b).entry e' = s.entry e' := fun e' h => by
    rw [State.entry_amendEntry hb, if_neg h]
  have hbefore : raisedLevel (s.entry e) = some b.level := by rw [hb, raisedLevel_of_raised hp]
  by_cases hoff : f.enable = some false
  · refine queuesMatch_leave hs hother hbefore (fun k => ?_) ?_
    · rw [hqueue, if_pos hoff]
    · rw [hafter]
      simp [AmendRecord.amended, hp, hoff, raisedLevel, Entry.isRaised]
  · have hne := hmoves.resolve_left hoff
    have hleft : QueuesMatch ((s.dropQueue b.level e).setEntry e none) := by
      refine queuesMatch_leave hs (fun e' h => ?_) hbefore (fun k => ?_) ?_
      · rw [entry_setEntry_flip, if_neg h, State.entry_dropQueue]
      · rw [State.queue_setEntry, queue_dropQueue]
        split
        · subst_vars; rfl
        · rfl
      · rw [State.entry_setEntry_same]; rfl
    refine queuesMatch_join (e := e) hleft (fun e' h => ?_) (j := f.newLevel b) ?_ (fun k => ?_) ?_
    · rw [hother e' h, entry_setEntry_flip, if_neg h, State.entry_dropQueue]
    · rw [hafter]
      simp [AmendRecord.amended, hp, hoff, raisedLevel, Entry.isRaised]
    · rw [hqueue, if_neg hoff, if_neg hne, State.queue_setEntry, queue_dropQueue]
      by_cases hnew : k = f.newLevel b
      · subst hnew
        simp [hne]
      · by_cases hold : k = b.level
        · subst hold
          simp [hnew]
        · simp [hnew, hold]
    · rw [State.entry_setEntry_same]; rfl

theorem directoryOk_amend {s : State} (hs : DirectoryOk s) {f : AmendRecord} {b : Entry}
    (hf : amendRecord s = some f) (hb : s.entry f.entry = some b)
    (hsense : ¬ (f.sense = some .level ∧ b.key.isPosted = true)) :
    DirectoryOk (s.amendEntry f f.entry b) := by
  have hbok := hs.entries f.entry b hb
  have hok := entryOk_amended hf hsense hbok
  by_cases hp : b.phase = .raised
  · by_cases hmoves : f.enable = some false ∨ f.newLevel b ≠ b.level
    · have hafter : (s.amendEntry f f.entry b).entry f.entry = some (f.amended b) := by
        rw [State.entry_amendEntry hb, if_pos rfl]
      have hholder : holderOf (some b) = none := holderOf_of_no_service (by simp [Entry.service, hp])
      refine directoryOk_requeue hs
        (queuesMatch_amend_raised hs.queues hb hp (newLevel_ne_zero hf hbok.1) hmoves)
        (State.stack_amendEntry s f f.entry b) (fun t => ?_) (fun e' h => ?_) (by rw [hb, hholder])
        (by rw [hafter, holderOf_amended, hholder]) fun b' hb' => ?_
      · rw [State.withdrawnOf_amendEntry]
      · rw [State.entry_amendEntry hb, if_neg h]
      · rw [hafter] at hb'
        cases hb'
        exact hok
    · obtain ⟨hon, hlevel⟩ := not_or.mp hmoves
      rw [not_not] at hlevel
      have hqueues : (s.amendEntry f f.entry b).queues = s.queues := by
        have hlevel' : f.level.getD b.level = b.level := hlevel
        simp [State.amendEntry, hp, hon, hlevel']
      refine directoryOk_amend_inPlace hs hb hqueues ?_ hok
      simp [AmendRecord.amended, hp, hon, hlevel, raisedLevel, Entry.isRaised]
  · refine directoryOk_amend_inPlace hs hb
      (State.queues_amendEntry_of_not_raised hp s f f.entry) ?_ hok
    rw [raisedLevel_of_not_raised hp, raisedLevel_of_not_raised ?_]
    unfold AmendRecord.amended
    split
    · dsimp only; split <;> nofun
    · dsimp only; split <;> nofun
    · exact absurd ‹_› hp
    · nofun
    · exact hp

/-! ### BIND, expiries and ticks -/

theorem directoryOk_bind {s : State} (hs : DirectoryOk s) {e : EntryNo} {f : BindRecord}
    (he : s.entry e = none) (hf : bindRecord s = some f) :
    DirectoryOk (s.setEntry e (some f.newEntry)) := by
  have hraised : raisedLevel (some f.newEntry) = none :=
    raisedLevel_of_not_raised (by rcases phase_newEntry f with hp | hp <;> simp [hp])
  refine directoryOk_setEntry hs rfl rfl rfl (entry_setEntry_flip s e _) ?_ ?_ (fun h => ?_)
    (entryOk_newEntry hf)
  · rw [he, hraised]; rfl
  · rw [he, holderOf_of_no_service (service_newEntry f)]; rfl
  · rw [he] at h
    exact absurd rfl h

/-- A service replaced by one of the same holder. -/
theorem directoryOk_withService {s : State} (hs : DirectoryOk s) {e : EntryNo} {b : Entry}
    {v w : Service} (hb : s.entry e = some b) (hv : b.service = some v) (hw : ServiceOk w)
    (hholder : w.holder = v.holder) (hagain : w.again = v.again)
    (hdormancy : w.stagedDormancy = v.stagedDormancy) :
    DirectoryOk (s.setEntry e (some (b.withService w))) := by
  refine directoryOk_setEntry hs rfl rfl rfl (entry_setEntry_flip s e _) ?_ ?_ (fun _ => ?_)
    (entryOk_withService (hs.entries e b hb) hv hw hagain hdormancy)
  · simp only [hb, raisedLevel, Option.bind_some, isRaised_withService, level_withService]
  · rw [hb, holderOf_of_service hv, holderOf_of_service (service_withService hv), hholder]
  · rw [levelOf, hb, level_withService]

theorem directoryOk_dropExpiry {s : State} (hs : DirectoryOk s) {e : EntryNo} {b : Entry}
    {v : Service} {l : RunningLimit} {o : Option RunningLimit}
    (h : s.outstanding e = some (b, v, l)) (ho : o = none ∨ o = some { l with expired := false }) :
    DirectoryOk (s.setEntry e (some (b.withLimit o))) := by
  obtain ⟨hb, hv, hl, -⟩ := outstanding_eq_some h
  obtain ⟨hoverdue, hstaged, hlimit⟩ := serviceOk_of_entryOk (hs.entries e b hb) hv
  rw [withLimit_eq hv]
  refine directoryOk_withService hs hb hv ⟨hoverdue, hstaged, fun l' hl' => ?_⟩ rfl rfl rfl
  rcases ho with rfl | rfl
  · cases hl'
  · cases hl'
    exact ⟨(hlimit l hl).1, nofun⟩

theorem raisedLevel_tick (o : Option Entry) : raisedLevel (o.map Entry.tick) = raisedLevel o := by
  cases o with
  | none => rfl
  | some b =>
    simp only [raisedLevel, Option.map_some, Option.bind_some, Entry.tick]
    split
    · rfl
    · rw [isRaised_withService, level_withService]

theorem holderOf_tick (o : Option Entry) : holderOf (o.map Entry.tick) = holderOf o := by
  cases o with
  | none => rfl
  | some b =>
    rw [Option.map_some, Entry.tick]
    split
    · rfl
    · rename_i v hv
      rw [holderOf_of_service hv, holderOf_of_service (service_withService hv)]

theorem level_tick (b : Entry) : b.tick.level = b.level := by
  unfold Entry.tick
  split
  · rfl
  · exact level_withService b _

theorem entryOk_tick {b : Entry} (h : EntryOk b) : EntryOk b.tick := by
  unfold Entry.tick
  split
  · exact h
  · rename_i v hv
    exact entryOk_withService h hv (serviceOk_tick (serviceOk_of_entryOk h hv)) rfl rfl

theorem directoryOk_tick {s : State} (hs : DirectoryOk s) :
    DirectoryOk { s with entries := mapEntries Entry.tick s.entries } := by
  refine directoryOk_inPlace hs rfl rfl rfl (fun e => ?_) (fun e => ?_) (fun e _ => ?_)
    fun e b hb => ?_
  · rw [State.entry_mapEntries, raisedLevel_tick]
  · rw [State.entry_mapEntries, holderOf_tick]
  · rw [levelOf, State.entry_mapEntries, levelOf]
    cases s.entry e with
    | none => rfl
    | some b => exact level_tick b
  · rw [State.entry_mapEntries] at hb
    obtain ⟨b', hb', rfl⟩ := Option.map_eq_some_iff.mp hb
    exact entryOk_tick (hs.entries e b' hb')

/-! ### Every step -/

theorem DirectoryStep.directoryOk {s s' : State} (h : DirectoryStep s s')
    (hd : ∀ r : Fin 7, (s.limits[r]).duration ≠ 0#16) (hs : DirectoryOk s) : DirectoryOk s' := by
  cases h with
  | occurrence e => exact directoryOk_occurrence hs e
  | lapse e => exact directoryOk_lapse hs e
  | take t e h => exact directoryOk_take hd hs h
  | finish t e h => exact directoryOk_finish hs (List.mem_of_head? h)
  | giveBack t e h => exact directoryOk_giveBack hs h
  | giveBackAll t => exact directoryOk_giveBackAll hs t
  | withdraw e b v hb hv => exact directoryOk_withdraw hs hb hv
  | shorten t l h =>
    obtain ⟨hlength, hnodup, hdisjoint⟩ := hs.withdrawn t
    exact directoryOk_setWithdrawn hs t l (h.length_le.trans hlength) (hnodup.sublist h)
      fun x hx => hdisjoint x (h.subset hx)
  | free e => exact directoryOk_free hs e
  | bind e f he hf hkey => exact directoryOk_bind hs he hf
  | amend f b hf hb hsense => exact directoryOk_amend hs hf hb hsense
  | retire e b hb => exact directoryOk_retire hs hb
  | firstExpiry e b v l h =>
    obtain ⟨hb, hv, -, -⟩ := outstanding_eq_some h
    exact directoryOk_withService hs hb hv
      (serviceOk_afterFirstExpiry hd (serviceOk_of_entryOk (hs.entries e b hb) hv) l) rfl rfl rfl
  | dropExpiry e b v l o h ho => exact directoryOk_dropExpiry hs h ho
  | tick => exact directoryOk_tick hs

/-- A directory of FREE entries is right with its queues, stacks and lists empty. -/
theorem directoryOk_empty {s : State} (hentry : ∀ e, s.entry e = none)
    (hqueue : ∀ k, s.queue k = []) (hstack : ∀ t, s.stack t = [])
    (hlist : ∀ t, s.withdrawnOf t = []) : DirectoryOk s := by
  refine ⟨?_, ?_, fun t => ?_, fun t => ?_, fun e b hb => ?_⟩
  · rw [queuesMatch_iff]
    intro k e
    rw [hqueue, hentry]
    rfl
  · rw [stacksMatch_iff]
    intro t e
    rw [hstack, hentry]
    rfl
  · rw [hstack]; simp
  · rw [hlist]; simp
  · rw [hentry] at hb; cases hb

end Sys2Proof.Machine
end

section
/-! PROOFS. Every step keeps the whole invariant of the part (O57), and reset establishes it (O56). -/

namespace Sys2Proof.Machine

open Sys2Proof.Safety

/-! ### The directory and the limit unit -/

theorem directoryOk_held (s : State) : DirectoryOk s.held :=
  directoryOk_empty (entry_held s) (fun k => by simp [State.held, State.reset, State.queue])
    (fun t => by simp [State.held, State.reset, State.stack])
    fun t => by simp [State.held, State.reset, State.withdrawnOf]

theorem directoryOk_congr {s s' : State} (hs : DirectoryOk s) (hentries : s'.entries = s.entries)
    (hqueues : s'.queues = s.queues) (hstacks : s'.serviceStacks = s.serviceStacks)
    (hwithdrawn : s'.withdrawn = s.withdrawn) : DirectoryOk s' := by
  have hentry : ∀ e, s'.entry e = s.entry e := fun e => by simp only [State.entry, hentries]
  refine directoryOk_inPlace hs hqueues hstacks hwithdrawn (fun e => by rw [hentry])
    (fun e => by rw [hentry]) (fun e _ => by rw [levelOf, hentry, levelOf]) fun e b hb => ?_
  rw [hentry] at hb
  exact hs.entries e b hb

theorem PartStep.directoryOk {s s' : State} (h : PartStep s s')
    (hd : ∀ r : Fin 7, (s.limits[r]).duration ≠ 0#16) (hs : DirectoryOk s) : DirectoryOk s' := by
  cases h with
  | directory h => exact h.directoryOk hd hs
  | cleared h =>
    exact directoryOk_empty h (fun k => by simp [State.clearedLists, State.queue])
      (fun t => by simp [State.clearedLists, State.stack])
      fun t => by simp [State.clearedLists, State.withdrawnOf]
  | complete c r ws => exact directoryOk_congr hs (by simp) (by simp) (by simp) (by simp)
  | _ => exact directoryOk_congr hs rfl rfl rfl rfl

/-! ### While RESETn is asserted -/

/-- Only words that reads return were written. -/
def ReadsOnly (s s' : State) : Prop :=
  s' = { s with takers := s'.takers, mstatData := s'.mstatData } ∧
    ∀ t, s'.port t = { s.port t with readData := (s'.port t).readData }

theorem ReadsOnly.refl (s : State) : ReadsOnly s s := ⟨rfl, fun _ => rfl⟩

theorem ReadsOnly.trans {s u s' : State} (h : ReadsOnly s u) (h' : ReadsOnly u s') :
    ReadsOnly s s' := by
  obtain ⟨hs, hport⟩ := h
  obtain ⟨hu, hport'⟩ := h'
  refine ⟨?_, fun t => ?_⟩
  · rw [hs] at hu
    exact hu
  · rw [hport' t, hport t]

theorem readsOnly_returnRead (s : State) (t : Taker) (w : Word) : ReadsOnly s (s.returnRead t w) := by
  refine ⟨rfl, fun t' => ?_⟩
  rw [State.returnRead, State.port_setPort]
  split
  · subst_vars; rfl
  · rfl

theorem readsOnly_foldl {α : Type} {f : State → α → State} (hf : ∀ s a, ReadsOnly s (f s a))
    (l : List α) (s : State) : ReadsOnly s (l.foldl f s) := by
  induction l generalizing s with
  | nil => exact .refl s
  | cons a l ih => exact (hf s a).trans (ih (f s a))

theorem readsOnly_claimInReset (s : State) (group : TakerSet) :
    ReadsOnly s (s.claimInReset group) := by
  refine readsOnly_foldl (fun s t => ?_) _ s
  split
  · exact readsOnly_returnRead s t _
  · exact .refl s

/-- What a part held in reset has that its own events look at: no command in flight, no cycle, no binding. -/
structure Quiet (s : State) : Prop where
  inReset : s.inReset = true
  slot : s.slot = .idle
  strings : ∀ n, s.string n = StringEngine.reset
  entries : ∀ e, s.entry e = none

theorem quiet_of_heldInReset {s : State} (h : HeldInReset s) (hr : s.inReset = true) : Quiet s := by
  obtain ⟨hs, -⟩ := h hr
  refine ⟨hr, congrArg State.slot hs, fun n => ?_, fun e => ?_⟩
  · refine (congrArg (fun u => State.string u n) hs).trans ?_
    simp [State.string, State.reset]
  · refine (congrArg (fun u => State.entry u e) hs).trans ?_
    simp [State.entry, State.reset]

theorem Quiet.outstanding {s : State} (h : Quiet s) (e : EntryNo) : s.outstanding e = none := by
  simp [State.outstanding, h.entries e]

theorem Quiet.state {s : State} (h : Quiet s) (n : StringNo) : (s.string n).state = .off := by
  rw [h.strings]; rfl

/-- While RESETn is asserted a bus access writes nothing (R172). -/
theorem access_of_inReset {s : State} (h : s.inReset = true) (f : State → State) :
    s.access f = s := if_pos h

/-- An answer after which only words that reads return have changed. -/
def OnlyReads (s : State) (o : Host.Outcome State Fault Refusal) : Prop :=
  ∀ s', o = .next s' → ReadsOnly s s'

theorem onlyReads_next {s a : State} (h : ReadsOnly s a) : OnlyReads s (.next a) := by
  intro s' hs'
  obtain rfl := Host.Outcome.next.inj hs'
  exact h

theorem Quiet.onlyReads_access {s : State} (h : Quiet s) (f : State → State) :
    OnlyReads s (.next (s.access f)) := by
  rw [access_of_inReset h.inReset]
  exact onlyReads_next (.refl s)

/-- The part held in reset answers reads with 0, takes no write, and none of its own events happens. -/
theorem Quiet.exec_onlyReads {s : State} (h : Quiet s) (i : Instr) (hon : i ≠ .powerOn)
    (hassert : i ≠ .resetnAssert) (hrelease : ∀ held, i ≠ .resetnRelease held) :
    OnlyReads s (exec i s) := by
  have hstay : ∀ o, o = .next s → OnlyReads s o := by
    rintro _ rfl
    exact onlyReads_next (.refl s)
  cases i with
  | powerOn => exact absurd rfl hon
  | resetnAssert => exact absurd rfl hassert
  | resetnRelease held => exact absurd rfl (hrelease held)
  | claim group =>
    change OnlyReads s (.next (if s.inReset then _ else _))
    rw [if_pos h.inReset]
    exact onlyReads_next (readsOnly_claimInReset s group)
  | peek t => exact onlyReads_next (readsOnly_returnRead s t _)
  | mstatRead =>
    change OnlyReads s (.next (if s.inReset then _ else _))
    rw [if_pos h.inReset]
    exact onlyReads_next ⟨rfl, fun _ => rfl⟩
  | tick =>
    change OnlyReads s (.next (if s.inReset then _ else _))
    rw [if_pos h.inReset]
    exact onlyReads_next (.refl s)
  | sweepExamination => exact hstay _ (by simp only [exec, execSweepExamination, h.slot])
  | clearingFree => exact hstay _ (by simp only [exec, execClearingFree, h.slot])
  | resetDirectoryCompletion =>
    exact hstay _ (by simp only [exec, execResetDirectoryCompletion, h.slot])
  | nextCycleChoice n => exact hstay _ (by simp [exec, execNextCycleChoice, h.state])
  | scanEnd n samples => exact hstay _ (by simp [exec, execScanEnd, h.state])
  | rollCallEnd n samples => exact hstay _ (by simp only [exec, execRollCallEnd, h.state])
  | wakeHold n => exact hstay _ (by simp only [exec, execWakeHold, h.state])
  | firstExpiry e => exact hstay _ (by simp only [exec, execFirstExpiry, h.outstanding])
  | secondExpiry e => exact hstay _ (by simp only [exec, execSecondExpiry, h.outstanding])
  | _ => exact h.onlyReads_access _

theorem ReadsOnly.heldInReset {s s' : State} (h : ReadsOnly s s') (hs : HeldInReset s)
    (hr : s.inReset = true) : HeldInReset s' := by
  intro _
  obtain ⟨heq, hport⟩ := h
  obtain ⟨hs, hports⟩ := hs hr
  refine ⟨?_, fun t => ?_⟩
  · have hpending : s'.pending = s.pending := by rw [heq]
    rw [hpending]
    exact heq.trans (congrArg
      (fun u : State => { u with takers := s'.takers, mstatData := s'.mstatData }) hs)
  · rw [hport t, hports t]

theorem heldInReset_of_released {s : State} (h : s.inReset = false) : HeldInReset s := by
  intro hr
  rw [h] at hr
  cases hr

theorem heldInReset_held (s : State) : HeldInReset s.held := by
  refine fun _ => ⟨rfl, fun t => ?_⟩
  have hport : s.held.port t = TakerPort.reset := by simp [State.held, State.reset, State.port]
  rw [hport]

theorem PartStep.inReset {s s' : State} (h : PartStep s s') (hs : s.inReset = false) :
    s'.inReset = false := by
  cases h with
  | directory h => rw [h.frame]; exact hs
  | _ => exact hs

theorem Path.inReset {s s' : State} (h : Path s s') (hs : s.inReset = false) :
    s'.inReset = false := by
  induction h with
  | refl => exact hs
  | tail _ hlast ih => exact hlast.inReset ih

/-- R172, R175: a part held in reset stays so but for the words reads return, until it is released. -/
theorem step_heldInReset {s s' : State} (hs : HeldInReset s) (h : step s = .next s') :
    HeldInReset s' := by
  rcases step_cases h with rfl | ⟨c, rest, h⟩
  · by_cases hr : s.inReset = true
    · rwa [State.refclk, if_pos hr]
    · exact heldInReset_of_released ((path_refclk s).inReset (Bool.eq_false_iff.mpr hr))
  · have hs' : HeldInReset { s with pending := rest } := by
      intro hr
      obtain ⟨heq, hports⟩ := hs hr
      refine ⟨?_, hports⟩
      conv_lhs => rw [heq]
    by_cases hon : c = .powerOn
    · subst hon
      obtain rfl := Host.Outcome.next.inj h
      exact heldInReset_held _
    by_cases hassert : c = .resetnAssert
    · subst hassert
      obtain rfl := Host.Outcome.next.inj h
      exact heldInReset_held _
    by_cases hrel : ∃ held, c = .resetnRelease held
    · obtain ⟨held, rfl⟩ := hrel
      change execResetnRelease held _ = _ at h
      unfold execResetnRelease at h
      split at h
      · split at h
        · cases h
        · obtain rfl := Host.Outcome.next.inj h
          exact heldInReset_of_released rfl
      · obtain rfl := Host.Outcome.next.inj h
        exact hs'
    · have hrel' : ∀ held, c ≠ .resetnRelease held := fun held he => hrel ⟨held, he⟩
      by_cases hr : s.inReset = true
      · exact ((quiet_of_heldInReset hs' hr).exec_onlyReads c hon hassert hrel' s' h).heldInReset
          hs' hr
      · exact heldInReset_of_released
          ((exec_follows c _ hon hassert hrel' s' h).inReset (Bool.eq_false_iff.mpr hr))

theorem sound_held (s : State) : Sound s.held where
  queues := (directoryOk_held s).queues
  serviceStacks := (directoryOk_held s).serviceStacks
  ordered := (directoryOk_held s).ordered
  withdrawn := (directoryOk_held s).withdrawn
  keys := keysDistinct_held s
  entries := (directoryOk_held s).entries
  limitUnit := limitUnitOk_held s
  strings := stringsOk_held s
  conditions := conditionsOk_held s
  slot := slotOk_held s
  inReset := heldInReset_held s

end Sys2Proof.Machine

namespace Sys2Proof.Claims

open Sys2Proof.Machine Sys2Proof.Safety

/-- The directory stays right beside a limit unit that does. -/
theorem step_keeps_directoryOk (s s' : State) (hs : DirectoryOk s ∧ LimitUnitOk s)
    (h : step s = .next s') : DirectoryOk s' ∧ LimitUnitOk s' := by
  refine step_keeps (I := fun s => DirectoryOk s ∧ LimitUnitOk s) (fun s p hs => ?_)
    (fun s => ⟨directoryOk_held s, limitUnitOk_held s⟩) (fun s hs => ?_)
    (fun s s' hstep hs => ⟨hstep.directoryOk hs.2.1 hs.1, hstep.limitUnitOk hs.2⟩) s s' hs h
  · obtain ⟨⟨hqueues, hstacks, hordered, hwithdrawn, hentries⟩, hlimits⟩ := hs
    exact ⟨⟨hqueues, hstacks, hordered, hwithdrawn, hentries⟩, hlimits⟩
  · obtain ⟨⟨hqueues, hstacks, hordered, hwithdrawn, hentries⟩, hrows, hp, -⟩ := hs
    exact ⟨⟨hqueues, hstacks, hordered, hwithdrawn, hentries⟩, hrows, hp,
      (Nat.succ_pos 15).trans_le hp⟩

/-- Settles O57: the directory step by step, the keys, rows and engines as above, and the part held in reset
by what its events find there. -/
theorem stepKeepsThePartSound : Obligations.StepKeepsThePartSound := by
  intro s s' hs h
  have hdirectory := step_keeps_directoryOk s s'
    ⟨⟨hs.queues, hs.serviceStacks, hs.ordered, hs.withdrawn, hs.entries⟩, hs.limitUnit⟩ h
  obtain ⟨⟨hqueues, hstacks, hordered, hwithdrawn, hentries⟩, hlimits⟩ := hdirectory
  exact
    { queues := hqueues
      serviceStacks := hstacks
      ordered := hordered
      withdrawn := hwithdrawn
      keys := stepKeepsKeysDistinct s s' hs.keys h
      entries := hentries
      limitUnit := hlimits
      strings := stepKeepsStringEngines s s' hs.strings h
      conditions := stepKeepsConditionRows s s' hs.conditions h
      slot := step_keeps (fun _ _ h => h) slotOk_held (fun _ h => h) (fun _ _ h => h.slotOk)
        s s' hs.slot h
      inReset := step_heldInReset hs.inReset h }

/-- Settles O56: the state after a release of the part held since power-on is the reset state, and the two
resets lead to a part held in reset. -/
theorem resetStateIsSound : Obligations.ResetStateIsSound := by
  refine ⟨?_, fun s s' h => ?_⟩
  · obtain ⟨hqueues, hstacks, hordered, hwithdrawn, hkeys, hentries, hlimits, hstrings, hconditions,
      hslot, -⟩ := sound_held State.reset
    exact ⟨hqueues, hstacks, hordered, hwithdrawn, hkeys, hentries, hlimits, hstrings, hconditions,
      hslot, heldInReset_of_released rfl⟩
  · rcases h with h | h
    · obtain rfl := Host.Outcome.next.inj h
      exact sound_held s
    · obtain rfl := Host.Outcome.next.inj h
      exact sound_held s

end Sys2Proof.Claims
end

section
/-! PROOFS. What a CLAIM and a PEEK leave (O9, O10, O11). -/

namespace Sys2Proof.Claims

open Sys2Proof.Machine

/-! ### The passed claim by its answer -/

theorem claimOne_of_offer {s : State} {t : Taker} {e : EntryNo} (h : s.claimAnswer t = .offer e) :
    s.claimOne t =
      ({ s.take t e with arbiter := t } : State).returnRead t (s.claimWord (.offer e)) := by
  simp only [State.claimOne, h]

/-- A claim answered NONE moves the pointer alone (R40). -/
theorem claimOne_of_refused {s : State} {t : Taker} (h : ∀ e, s.claimAnswer t ≠ .offer e) :
    s.claimOne t =
      { s.setPort t { s.port t with readData := some (s.claimWord (s.claimAnswer t)) } with
        arbiter := t } := by
  cases ha : s.claimAnswer t with
  | offer e => exact absurd ha (h e)
  | _ => simp only [State.claimOne, ha]; rfl

theorem claimAnswer_ne_offer {s : State} {t : Taker}
    (h : s.clearing = true ∨ (s.port t).enabled = false ∨ 4 ≤ (s.stack t).length ∨ NoEligible s t)
    (e : EntryNo) : s.claimAnswer t ≠ .offer e := by
  intro ha
  obtain ⟨hc, he, hl, hfirst⟩ := claimAnswer_eq_offer_iff.mp ha
  rcases h with h | h | h | h
  · simp [hc] at h
  · simp [he] at h
  · omega
  · rw [← walk_eq_some_iff, walk_eq_none_iff.mpr h] at hfirst
    cases hfirst

/-- Settles O10: the pointer and the word returned are all that a claim answered NONE writes. -/
theorem peekAndRefusedClaimMoveNothing : Obligations.PeekAndRefusedClaimMoveNothing := by
  intro s t hr
  refine ⟨⟨_, exec_peek_of_released hr t⟩, fun h => ?_⟩
  have hrefused := claimAnswer_ne_offer h
  refine ⟨s.claimWord (s.claimAnswer t), ?_, ?_⟩
  · rw [claimWord_bit31_eq_tkalert, Bool.eq_false_iff, ne_eq, tkalert_iff_offer]
    rintro ⟨e, he⟩
    exact hrefused e he
  · rw [exec_claim_oneTaker hr, claimOne_of_refused hrefused]

/-- Settles O11: the first claim of a group is passed, and the rest meets the part as it left it. -/
theorem claimsTogetherPassRoundRobin : Obligations.ClaimsTogetherPassRoundRobin :=
  fun s _ t hr h => ⟨s.claimOne t, exec_claim_oneTaker hr t, exec_claim_of_firstPassed hr h⟩

/-! ### The claim of an offer -/

theorem loadLimit_of_class_zero (s : State) {c : LimitClass} (h : c.val = 0) :
    s.loadLimit c = none := by
  simp [State.loadLimit, limitRowOf, h]

theorem loadLimit_of_row (s : State) {c : LimitClass} {r : Fin 7} (h : c.val = r.val + 1) :
    s.loadLimit c = some { row := r, remaining := (s.limits[r]).duration, expired := false } := by
  have hrow : limitRowOf c = some r := by simp [limitRowOf, h]
  simp [State.loadLimit, hrow]

/-- Settles O9: the claim of an offer takes the entry, moves the pointer and returns the word. -/
theorem claimTakesTheOfferedEntry : Obligations.ClaimTakesTheOfferedEntry := by
  intro s t e b hr hc he hl hfirst hb
  have ha := claimAnswer_eq_offer_iff.mpr ⟨hc, he, hl, hfirst⟩
  have hclaim := claimOne_of_offer ha
  have hport : (s.claimOne t).takers =
      s.takers.set t.val { s.port t with readData := some (s.claimWord (.offer e)) } t.isLt := by
    rw [hclaim, State.take_frame]
    rfl
  have hports : ∀ t', (s.claimOne t).port t' =
      (s.setPort t { s.port t with readData := some (s.claimWord (.offer e)) }).port t' := by
    intro t'
    simp only [State.port, hport, State.setPort]
  refine ⟨s.claimOne t, s.newService t b.limitClass, exec_claim_oneTaker hr t, s.claimOne_frame t,
    ?entry, rfl, rfl, rfl, rfl, rfl, rfl, loadLimit_of_class_zero s, fun r => loadLimit_of_row s,
    ?others, ?queue, ?stack, ?list, ?port, ?ports⟩
  case entry =>
    rw [hclaim]
    exact s.take_entry t e b hb
  case others =>
    intro e' hne
    rw [hclaim]
    exact s.take_other t e e' hne.symm
  case queue =>
    intro k
    rw [hclaim]
    exact State.queue_take hb t k
  case stack =>
    intro t'
    rw [hclaim]
    exact State.stack_take_of hb t t'
  case list =>
    intro t'
    rw [hclaim]
    exact State.withdrawnOf_take hb t t'
  case port => rw [hports, State.port_setPort_same]
  case ports =>
    intro t' hne
    rw [hports, State.port_setPort_ne _ _ _ _ hne.symm]

end Sys2Proof.Claims
end

section
/-! PROOFS. DONE and YIELD by their answers (O13, O15, O16, O17). -/

namespace Sys2Proof.Claims

open Sys2Proof.Machine

/-! ### The writes by their fields -/

theorem exec_yield_of_released {s : State} (hr : s.inReset = false) (t : Taker) (v : Word) :
    exec (.yield t v) s = .next (s.writeYield t v) :=
  congrArg Host.Outcome.next (s.access_run _ hr)

theorem entryField_of_greater {v : Word} (h : 95 < low8 v) : entryField v = none := by
  cases he : entryField v with
  | none => rfl
  | some e =>
    have := entryField_eq_some.mp he
    omega

/-- Bits 7:0 name an entry or are above 95. -/
theorem entryField_cases (v : Word) : (∃ e : EntryNo, low8 v = e.val) ∨ 95 < low8 v := by
  cases he : entryField v with
  | some e => exact .inl ⟨e, entryField_eq_some.mp he⟩
  | none =>
    refine .inr (Nat.lt_of_not_le fun hle => ?_)
    rw [(entryField_eq_some (e := ⟨low8 v, by omega⟩)).mpr rfl] at he
    cases he

theorem writeDone_of_greater {s : State} {t : Taker} {v : Word} (h : 95 < low8 v) :
    s.writeDone t v = s.recordDone t v .range := by
  simp only [State.writeDone, entryField_of_greater h]

theorem writeDone_of_entry {s : State} {t : Taker} {v : Word} {e : EntryNo} (h : low8 v = e.val) :
    s.writeDone t v = (s.doneEffect t e).recordDone t v (s.doneAnswer t e) := by
  simp only [State.writeDone, entryField_eq_some.mpr h]

theorem writeYield_of_greater {s : State} {t : Taker} {v : Word} (h : 95 < low8 v) :
    s.writeYield t v = s.recordYield t v .range := by
  simp only [State.writeYield, entryField_of_greater h]

theorem writeYield_of_entry {s : State} {t : Taker} {v : Word} {e : EntryNo} (h : low8 v = e.val) :
    s.writeYield t v = (s.yieldEffect t e).recordYield t v (s.yieldAnswer t e) := by
  simp only [State.writeYield, entryField_eq_some.mpr h]

/-! ### The answers (R58, R63) -/

section Answers

variable {s : State} {t : Taker} {e : EntryNo}

theorem head_ne_of_not_mem (h : e ∉ s.stack t) : (s.stack t).head? ≠ some e :=
  fun hhead => h (List.mem_of_head? hhead)

theorem yieldAnswer_of_clearing (hc : s.clearing = true) : s.yieldAnswer t e = .notHeld := by
  simp [State.yieldAnswer, hc]

theorem yieldAnswer_of_head (hc : s.clearing = false) (h : (s.stack t).head? = some e) :
    s.yieldAnswer t e = .ok := by
  simp [State.yieldAnswer, hc, h]

theorem yieldAnswer_of_below (hc : s.clearing = false) (h : (s.stack t).head? ≠ some e)
    (hmem : e ∈ s.stack t) : s.yieldAnswer t e = .order := by
  simp [State.yieldAnswer, hc, h, hmem]

theorem yieldAnswer_of_not_mem (hc : s.clearing = false) (h : e ∉ s.stack t) :
    s.yieldAnswer t e = .notHeld := by
  simp [State.yieldAnswer, hc, head_ne_of_not_mem h, h]

theorem doneAnswer_of_clearing (hc : s.clearing = true) : s.doneAnswer t e = .notHeld := by
  simp [State.doneAnswer, hc]

theorem doneAnswer_of_head (hc : s.clearing = false) (h : (s.stack t).head? = some e) :
    s.doneAnswer t e = .ok := by
  simp [State.doneAnswer, hc, h]

theorem doneAnswer_of_below (hc : s.clearing = false) (h : (s.stack t).head? ≠ some e)
    (hmem : e ∈ s.stack t) : s.doneAnswer t e = .order := by
  simp [State.doneAnswer, hc, h, hmem]

theorem doneAnswer_of_unknown (hc : s.clearing = false) (h : e ∉ s.stack t)
    (hlist : e ∉ s.withdrawnOf t) : s.doneAnswer t e = .notHeld := by
  simp [State.doneAnswer, hc, head_ne_of_not_mem h, h, hlist]

/-- What is not on top of the stack is answered ORDER or NOTHELD (R63). -/
theorem yieldAnswer_misplaced (h : s.clearing = true ∨ (s.stack t).head? ≠ some e) :
    s.yieldAnswer t e = .order ∨ s.yieldAnswer t e = .notHeld := by
  cases hc : s.clearing with
  | true => exact .inr (yieldAnswer_of_clearing hc)
  | false =>
    have hhead : (s.stack t).head? ≠ some e := by simpa [hc] using h
    by_cases hmem : e ∈ s.stack t
    · exact .inl (yieldAnswer_of_below hc hhead hmem)
    · exact .inr (yieldAnswer_of_not_mem hc hmem)

/-- What is neither on top of the stack nor, off it, on the withdrawn list is answered ORDER or NOTHELD (R58). -/
theorem doneAnswer_misplaced (h : s.clearing = true ∨ (s.stack t).head? ≠ some e)
    (hlate : s.clearing = true ∨ e ∈ s.stack t ∨ e ∉ s.withdrawnOf t) :
    s.doneAnswer t e = .order ∨ s.doneAnswer t e = .notHeld := by
  cases hc : s.clearing with
  | true => exact .inr (doneAnswer_of_clearing hc)
  | false =>
    have hhead : (s.stack t).head? ≠ some e := by simpa [hc] using h
    by_cases hmem : e ∈ s.stack t
    · exact .inl (doneAnswer_of_below hc hhead hmem)
    · exact .inr (doneAnswer_of_unknown hc hmem (by simpa [hc, hmem] using hlate))

end Answers

/-- Settles O13: a field above 95 is answered RANGE, and each case of R58 and of R63 gives its answer. -/
theorem doneAndYieldAnswerByFirstCase : Obligations.DoneAndYieldAnswerByFirstCase := by
  intro s t v hr
  rw [exec_done_of_released hr, exec_yield_of_released hr]
  rcases entryField_cases v with ⟨e, he⟩ | hrange
  · have hfield : ∀ e' : EntryNo, low8 v = e'.val → e' = e := fun e' h => Fin.ext (h.symm.trans he)
    have hlow : ¬ 95 < low8 v := by omega
    refine ⟨⟨_, s.yieldAnswer t e, rfl, ?_, fun h => absurd h hlow, fun e' he' => ?_⟩,
      ⟨_, s.doneAnswer t e, rfl, ?_, fun h => absurd h hlow, fun e' he' => ?_⟩⟩
    · rw [writeYield_of_entry he]
      exact portAnswered_recordYield (s.takers_yieldEffect t e) t v _
    · rw [hfield e' he']
      exact ⟨yieldAnswer_of_clearing, yieldAnswer_of_head, yieldAnswer_of_below,
        yieldAnswer_of_not_mem⟩
    · rw [writeDone_of_entry he]
      exact portAnswered_recordDone (s.takers_doneEffect t e) t v _
    · rw [hfield e' he']
      exact ⟨doneAnswer_of_clearing, doneAnswer_of_head, doneAnswer_of_below, doneAnswer_eq_late,
        doneAnswer_of_unknown⟩
  · have hnone : ∀ e' : EntryNo, low8 v ≠ e'.val := fun e' h => by omega
    rw [writeYield_of_greater hrange, writeDone_of_greater hrange]
    exact ⟨⟨_, .range, rfl, portAnswered_recordYield rfl t v _, fun _ => ⟨rfl, rfl⟩,
        fun e' h => absurd h (hnone e')⟩,
      ⟨_, .range, rfl, portAnswered_recordDone rfl t v _, fun _ => ⟨rfl, rfl⟩,
        fun e' h => absurd h (hnone e')⟩⟩

/-! ### ORDER and NOTHELD (R61) -/

/-- A DONE answered ORDER or NOTHELD is one report (R61). -/
theorem doneEffect_misplaced {s : State} {t : Taker} {e : EntryNo}
    (ha : s.doneAnswer t e = .order ∨ s.doneAnswer t e = .notHeld) :
    s.doneEffect t e = s.report .protocol (.taker t) := by
  rcases ha with ha | ha <;> simp only [State.doneEffect, ha]

theorem yieldEffect_misplaced {s : State} {t : Taker} {e : EntryNo}
    (ha : s.yieldAnswer t e = .order ∨ s.yieldAnswer t e = .notHeld) :
    s.yieldEffect t e = s.report .protocol (.taker t) := by
  rcases ha with ha | ha <;> simp only [State.yieldEffect, ha]

/-- An answered write that keeps floor and enable state, and changes ports and rows alone, moves no threshold
and no alert line (R36, R45). -/
theorem threshold_and_tkalert_of_ports {s s' : State} {t : Taker} {a : Answer}
    {word : TakerPort → TakerPort}
    (hs : s' = { s with takers := s'.takers, conditions := s'.conditions })
    (hport : PortAnswered s s' t a word) (hfloor : ∀ p, (word p).floor = p.floor)
    (henabled : ∀ p, (word p).enabled = p.enabled) (t' : Taker) :
    s'.threshold t' = s.threshold t' ∧ s'.tkalert t' = s.tkalert t' := by
  obtain ⟨hsame, hother⟩ := hport
  have hkept : (s'.port t').floor = (s.port t').floor ∧
      (s'.port t').enabled = (s.port t').enabled := by
    by_cases h : t' = t
    · rw [h, hsame, hfloor, henabled]
      exact ⟨rfl, rfl⟩
    · rw [hother t' h]
      exact ⟨rfl, rfl⟩
  obtain ⟨hfloor', henabled'⟩ := hkept
  have hentries : s'.entries = s.entries := by rw [hs]
  have hstacks : s'.serviceStacks = s.serviceStacks := by rw [hs]
  exact ⟨threshold_congr hentries hstacks hfloor',
    tkalert_congr hentries (by rw [hs]) hstacks (by rw [hs]) henabled' hfloor'⟩

/-- Settles O15: such a write is one report and the port's answer. -/
theorem misplacedDoneOrYieldOnlyReports : Obligations.MisplacedDoneOrYieldOnlyReports := by
  intro s t v e hr he hmisplaced
  rw [exec_done_of_released hr, exec_yield_of_released hr, writeDone_of_entry he,
    writeYield_of_entry he]
  refine ⟨fun hlate => ?_, ?_⟩
  · have ha := doneAnswer_misplaced hmisplaced hlate
    have hport := portAnswered_recordDone (s := s) (u := s.report .protocol (.taker t)) rfl t v
      (s.doneAnswer t e)
    rw [doneEffect_misplaced ha]
    exact ⟨_, _, rfl, ha, rfl, hport, reportedOnce_report s .protocol (.taker t),
      threshold_and_tkalert_of_ports rfl hport (fun _ => rfl) fun _ => rfl⟩
  · have ha := yieldAnswer_misplaced hmisplaced
    have hport := portAnswered_recordYield (s := s) (u := s.report .protocol (.taker t)) rfl t v
      (s.yieldAnswer t e)
    rw [yieldEffect_misplaced ha]
    exact ⟨_, _, rfl, ha, rfl, hport, reportedOnce_report s .protocol (.taker t),
      threshold_and_tkalert_of_ports rfl hport (fun _ => rfl) fun _ => rfl⟩

/-! ### OK (R59, R63) -/

section Top

variable {s : State} {t : Taker} {v : Word} {e : EntryNo} {below : List EntryNo}
  (hr : s.inReset = false) (hc : s.clearing = false) (he : low8 v = e.val)
  (hstack : s.stack t = e :: below)

include hr hc he hstack

theorem exec_done_of_top : exec (.done t v) s = .next ((s.finish t e).recordDone t v .ok) := by
  have ha : s.doneAnswer t e = .ok := doneAnswer_of_head hc (by rw [hstack]; rfl)
  rw [exec_done_of_released hr, writeDone_of_entry he]
  simp only [State.doneEffect, ha]

theorem exec_yield_of_top : exec (.yield t v) s = .next ((s.giveBack t e).recordYield t v .ok) := by
  have ha : s.yieldAnswer t e = .ok := yieldAnswer_of_head hc (by rw [hstack]; rfl)
  rw [exec_yield_of_released hr, writeYield_of_entry he]
  simp only [State.yieldEffect, ha]

end Top

/-- Settles O16: the end of the top service by DONE, and the answer at the port. -/
theorem doneEndsTheTopService : Obligations.DoneEndsTheTopService := by
  intro s t v e below b hr hc he hstack hb
  have hafter : (s.finish t e).entry e = b.finished := by
    rw [State.entry_finish, if_pos rfl, hb, Option.bind_some]
  refine ⟨_, exec_done_of_top hr hc he hstack, ?frame,
    portAnswered_recordDone (s.takers_finish t e) t v .ok, fun t' => ?stack, fun e' hne => ?others,
    fun w hp => ?retiring, fun w k hp hk hk0 => ⟨fun hd => ?dormant, fun hd ha => ?raised,
      fun hd ha => ?armed⟩⟩
  case frame => rw [State.finish_frame]; rfl
  case stack =>
    refine (State.stack_finish s t e t').trans ?_
    rw [hstack, List.erase_cons_head]
  case others => exact s.finish_other t e e' hne.symm
  case retiring =>
    exact ⟨hafter.trans (by simp [Entry.finished, hp]),
      State.queues_finish_other hb (fun x hx => by rw [hp] at hx; cases hx) t⟩
  case dormant =>
    refine ⟨hafter.trans (by simp [Entry.finished, hp, hd, Entry.leave, hk]),
      State.queues_finish_other hb (fun x hx hxd => ?_) t⟩
    rw [hp] at hx
    cases hx
    rw [hd] at hxd
    cases hxd
  case raised =>
    subst hk
    exact ⟨hafter.trans (by simp [Entry.finished, hp, hd, ha, Entry.leave]),
      State.queue_finish_again hb hp hd ha hk0 t⟩
  case armed =>
    refine ⟨hafter.trans (by simp [Entry.finished, hp, hd, ha, Entry.leave, hk]),
      State.queues_finish_other hb (fun x hx _ => ?_) t⟩
    rw [hp] at hx
    cases hx
    exact ha

/-- Settles O17: the return of the top service by YIELD, and the answer at the port. -/
theorem yieldReturnsTheTopEntry : Obligations.YieldReturnsTheTopEntry := by
  intro s t v e below b hr hc he hstack hb
  have hafter : (s.giveBack t e).entry e = b.returned := by
    rw [State.entry_giveBack, if_pos rfl, hb, Option.bind_some]
  have hphase : ∀ b' w, s.entry e = some b' → b'.phase = .held w → b.phase = .held w := by
    intro b' w hb' hw
    rw [hb] at hb'
    cases hb'
    exact hw
  refine ⟨_, exec_yield_of_top hr hc he hstack, ?frame,
    portAnswered_recordYield (s.takers_giveBack t e) t v .ok, fun t' => ?stack,
    fun e' hne => ?others, fun w hp => ?retiring,
    fun w k hp hk hk0 => ⟨fun hd => ?dormant, fun hd => ?raised⟩⟩
  case frame => rw [State.giveBack_frame]; rfl
  case stack =>
    refine (State.stack_giveBack s t e t').trans ?_
    rw [hstack, List.erase_cons_head]
  case others => exact s.giveBack_other t e e' hne.symm
  case retiring =>
    refine ⟨hafter.trans (by simp [Entry.returned, hp]),
      State.queues_giveBack_other (fun b' x hb' hx => ?_) t⟩
    have hheld := hphase b' x hb' hx
    rw [hp] at hheld
    cases hheld
  case dormant =>
    refine ⟨hafter.trans (by simp [Entry.returned, hp, hd, Entry.leave, hk]),
      State.queues_giveBack_other (fun b' x hb' hx => ?_) t⟩
    have hheld := hphase b' x hb' hx
    rw [hp] at hheld
    cases hheld
    exact hd
  case raised =>
    subst hk
    exact ⟨hafter.trans (by simp [Entry.returned, hp, hd, Entry.leave]),
      State.queue_giveBack_held hb hp hd hk0 t⟩

end Sys2Proof.Claims
end

section
/-! PROOFS. The whole stack returned by TRESET (O21). -/

namespace Sys2Proof.Claims

open Sys2Proof.Machine

/-- Whether entry e goes to queue k when its service is returned (R17). -/
def returnsTo (s : State) (k : Level) (e : EntryNo) : Bool :=
  match s.entry e with
  | none => false
  | some b =>
    match b.phase with
    | .held w => !w.stagedDormancy && w.stagedLevel.getD b.level == k
    | _ => false

theorem returnsTo_congr {s s' : State} {e : EntryNo} (h : s'.entry e = s.entry e) (k : Level) :
    returnsTo s' k e = returnsTo s k e := by
  unfold returnsTo
  rw [h]

theorem pushHead_zero (s : State) (e : EntryNo) : s.pushHead 0 e = s := rfl

/-- One return puts the entry at the head of the queue it goes to and leaves every other. -/
theorem queue_giveBack (s : State) (t : Taker) (e : EntryNo) {k : Level} (hk : k ≠ 0) :
    (s.giveBack t e).queue k = if returnsTo s k e then e :: s.queue k else s.queue k := by
  cases hb : s.entry e with
  | none => simp [State.giveBack, hb, returnsTo]
  | some b =>
    cases hp : b.phase with
    | held v =>
      cases hd : v.stagedDormancy with
      | true => simp [State.giveBack, hb, hp, hd, returnsTo]
      | false =>
        by_cases hend : v.endLevel b = 0
        · have hne : v.stagedLevel.getD b.level ≠ k := fun h => hk (h.symm.trans hend)
          have hzero : v.stagedLevel.getD b.level = 0 := hend
          simp [State.giveBack, hb, hp, hd, returnsTo, hzero, pushHead_zero, hk.symm]
        · rw [State.queue_giveBack_held hb hp hd hend]
          simp only [returnsTo, hb, hp, hd, Bool.not_false, Bool.true_and, beq_iff_eq,
            Service.endLevel, eq_comm (a := k)]
          split
          · subst_vars; rfl
          · rfl
    | _ => simp [State.giveBack, hb, hp, returnsTo]

/-- The entries of a list given back one after the other. -/
def giveBackList (t : Taker) (l : List EntryNo) (s : State) : State :=
  l.foldl (fun s e => s.giveBack t e) s

theorem entry_giveBackList_of_not_mem {t : Taker} {l : List EntryNo} {e : EntryNo} (h : e ∉ l)
    (s : State) : (giveBackList t l s).entry e = s.entry e := by
  induction l generalizing s with
  | nil => rfl
  | cons x l ih =>
    obtain ⟨hne, hl⟩ := List.ne_and_not_mem_of_not_mem_cons h
    exact (ih hl _).trans (s.giveBack_other t x e hne.symm)

theorem entry_giveBackList_of_mem {t : Taker} {l : List EntryNo} (hl : l.Nodup) {e : EntryNo}
    (h : e ∈ l) (s : State) : (giveBackList t l s).entry e = (s.entry e).bind Entry.returned := by
  induction l generalizing s with
  | nil => cases h
  | cons x l ih =>
    obtain ⟨hx, hl⟩ := List.nodup_cons.mp hl
    rcases List.mem_cons.mp h with rfl | h
    · refine (entry_giveBackList_of_not_mem hx _).trans ?_
      rw [State.entry_giveBack, if_pos rfl]
    · refine (ih hl h _).trans ?_
      rw [s.giveBack_other t x e (by rintro rfl; exact hx h)]

theorem stack_giveBackList_other {t t' : Taker} (h : t' ≠ t) (l : List EntryNo) (s : State) :
    (giveBackList t l s).stack t' = s.stack t' := by
  induction l generalizing s with
  | nil => rfl
  | cons x l ih => exact (ih _).trans (by rw [State.stack_giveBack, if_neg h])

/-- The queue has the returned entries in front, the one given back last first (R31). -/
theorem queue_giveBackList {t : Taker} {l : List EntryNo} (hl : l.Nodup) {k : Level} (hk : k ≠ 0)
    (s : State) :
    (giveBackList t l s).queue k = l.reverse.filter (returnsTo s k) ++ s.queue k := by
  induction l generalizing s with
  | nil => rfl
  | cons x l ih =>
    obtain ⟨hx, hl⟩ := List.nodup_cons.mp hl
    have hsame : l.reverse.filter (returnsTo (s.giveBack t x) k) =
        l.reverse.filter (returnsTo s k) := by
      refine List.filter_congr fun e he => returnsTo_congr (s.giveBack_other t x e ?_) k
      rintro rfl
      exact hx (List.mem_reverse.mp he)
    refine (ih hl _).trans ?_
    rw [hsame, queue_giveBack s t x hk, List.reverse_cons, List.filter_append, List.append_assoc]
    cases hret : returnsTo s k x <;> simp [hret]

/-- Settles O21: the stack given back entry by entry, then the list and the floor. -/
theorem tresetReturnsTheWholeStack : Obligations.TresetReturnsTheWholeStack := by
  intro s t v hr
  have hu : ∃ u : State, u = if s.clearing then s else s.giveBackAll t := ⟨_, rfl⟩
  obtain ⟨u, hu⟩ := hu
  have hframe : u = { s with
      entries := u.entries, queues := u.queues, serviceStacks := u.serviceStacks
      withdrawn := u.withdrawn } := by
    rw [hu]
    split
    · rfl
    · exact (DirectoryStep.giveBackAll s t).frame
  have hwrite : s.writeTreset t v =
      (u.setWithdrawn t []).setPort t
        { (u.setWithdrawn t []).port t with answer := .ok, floor := 0, lastTreset := v } := by
    rw [hu]
    rfl
  have hport := portAnswered_writeTreset s t v
  rw [exec_treset_of_released hr]
  rw [hwrite] at hport ⊢
  refine ⟨_, rfl, ?frame, hport, fun t' => ?list, fun hc => ?clearing, fun hc hnodup => ?outside⟩
  case frame => rw [hframe]; rfl
  case list =>
    refine (State.withdrawnOf_setWithdrawn u t [] t').trans ?_
    have hlist : u.withdrawnOf t' = s.withdrawnOf t' := by
      rw [hu]
      split
      · rfl
      · have hall : ∀ (l : List EntryNo) (s : State),
            (giveBackList t l s).withdrawnOf t' = s.withdrawnOf t' := by
          intro l
          induction l with
          | nil => exact fun _ => rfl
          | cons e l ih => exact fun s => (ih _).trans (State.withdrawnOf_giveBack s t e t')
        exact hall (s.stack t) s
    rw [hlist]
    simp only [eq_comm]
  case clearing =>
    rw [if_pos hc] at hu
    subst hu
    exact ⟨rfl, rfl, rfl⟩
  case outside =>
    have hall : u = (giveBackList t (s.stack t) s).setStack t [] := by
      rw [hu, hc]
      rfl
    have hentry : ∀ e, u.entry e = (giveBackList t (s.stack t) s).entry e := by
      intro e
      rw [hall, State.entry_setStack]
    have hreturned : ∀ e b, e ∈ s.stack t → s.entry e = some b → u.entry e = b.returned := by
      intro e b he hb
      rw [hentry, entry_giveBackList_of_mem hnodup he, hb, Option.bind_some]
    refine ⟨fun t' => ?_, fun e he => ?_, fun e b w he hb hp => ?_, fun e b w he hb hp => ?_,
      fun k hk => ?_⟩
    · change u.stack t' = _
      rw [hall, State.stack_setStack]
      by_cases h : t' = t
      · rw [if_pos h.symm, if_pos h]
      · rw [if_neg (Ne.symm h), if_neg h, stack_giveBackList_other h]
    · exact (hentry e).trans (entry_giveBackList_of_not_mem he s)
    · refine (hreturned e b he hb).trans ?_
      simp [Entry.returned, hp]
    · refine (hreturned e b he hb).trans ?_
      cases hd : w.stagedDormancy <;> simp [Entry.returned, hp, hd, Entry.leave]
    · change u.queue k = _
      rw [hall, State.queue_setStack]
      exact queue_giveBackList hnodup hk s

end Sys2Proof.Claims
end

section
/-! PROOFS. The step and the resets: O1, O2, O3, O4, O5. -/

namespace Sys2Proof.Claims

open Sys2Proof.Machine

/-! ### The step -/

/-- Settles O1: the step reads the queue's front and puts its rest in its place. -/
theorem stepRunsTheFrontCommand : Obligations.StepRunsTheFrontCommand := fun _ _ => rfl

theorem refclk_eq (g : StringEngine) :
    g.refclk = if g.state = .running then { g with clock := g.clock + 1 } else g := by
  unfold StringEngine.refclk
  cases g.state <;> rfl

theorem string_refclk (s : State) (n : StringNo) :
    ({ s with strings := #v[s.strings[0].refclk, s.strings[1].refclk, s.strings[2].refclk] } :
      State).string n = (s.string n).refclk := by
  fin_cases n <;> rfl

/-- Settles O2: the three clocks, and the tick where the prescaler's count is full. -/
theorem emptyQueueStepIsOneRefclkPeriod : Obligations.EmptyQueueStepIsOneRefclkPeriod := by
  intro s hp
  refine ⟨s.refclk, step_nil s hp, ?frame, ?inReset, fun hr => ⟨fun n => ?strings, ?count, ?tick⟩⟩
  case frame =>
    simp only [State.refclk]
    split
    · rfl
    · split <;> rfl
  case inReset =>
    intro hr
    rw [State.refclk, if_pos hr]
  case strings =>
    rw [← refclk_eq, ← string_refclk, State.refclk, if_neg (Bool.eq_false_iff.mp hr)]
    dsimp only
    split <;> rfl
  case count =>
    intro hlt
    rw [State.refclk, hr, if_neg Bool.false_ne_true, if_neg (by omega)]
    exact ⟨rfl, rfl⟩
  case tick =>
    intro hle
    rw [State.refclk, hr, if_neg Bool.false_ne_true, if_pos hle]
    exact ⟨rfl, fun e => State.entry_mapEntries s Entry.tick e⟩

/-! ### Every command completes -/

/-- An answer that is a next state. -/
def Completes (o : Host.Outcome State Fault Refusal) : Prop := ∃ t, o = .next t

theorem completes_next (s : State) : Completes (.next s) := ⟨s, rfl⟩

theorem completes_sweepExamination (s : State) : Completes (execSweepExamination s) := by
  unfold execSweepExamination
  split <;> exact completes_next _

theorem completes_clearingFree (s : State) : Completes (execClearingFree s) := by
  unfold execClearingFree
  split <;> exact completes_next _

theorem completes_resetDirectoryCompletion (s : State) :
    Completes (execResetDirectoryCompletion s) := by
  unfold execResetDirectoryCompletion
  split <;> exact completes_next _

theorem completes_nextCycleChoice (n : StringNo) (s : State) :
    Completes (execNextCycleChoice n s) := by
  unfold execNextCycleChoice
  split <;> exact completes_next _

theorem completes_scanEnd (n : StringNo) (samples : BitVec 54) (s : State) :
    Completes (execScanEnd n samples s) := by
  unfold execScanEnd
  split <;> exact completes_next _

theorem completes_rollCallEnd (n : StringNo) (samples : BitVec 27) (s : State) :
    Completes (execRollCallEnd n samples s) := by
  unfold execRollCallEnd
  split <;> exact completes_next _

theorem completes_wakeHold (n : StringNo) (s : State) : Completes (execWakeHold n s) := by
  unfold execWakeHold
  split <;> exact completes_next _

theorem completes_firstExpiry (e : EntryNo) (s : State) : Completes (execFirstExpiry e s) := by
  unfold execFirstExpiry
  split
  · exact completes_next _
  · split <;> exact completes_next _

theorem completes_secondExpiry (e : EntryNo) (s : State) : Completes (execSecondExpiry e s) := by
  unfold execSecondExpiry
  split
  · exact completes_next _
  · split <;> exact completes_next _

theorem completes_resetnRelease {held : Nat} {s : State} (h : s.inReset = true → 16 ≤ held) :
    Completes (execResetnRelease held s) := by
  unfold execResetnRelease
  split
  · have hlong : ¬ held < Config.resetHold := Nat.not_lt.mpr (h ‹_›)
    rw [if_neg hlong]
    exact completes_next _
  · exact completes_next _

/-- Settles O3: the release of RESETn alone has an arm that is no next state. -/
theorem everyCommandCompletesButTooShortReset :
    Obligations.EveryCommandCompletesButTooShortReset := by
  intro i s h
  cases i with
  | resetnRelease held => exact completes_resetnRelease (h held rfl)
  | sweepExamination => exact completes_sweepExamination s
  | clearingFree => exact completes_clearingFree s
  | resetDirectoryCompletion => exact completes_resetDirectoryCompletion s
  | nextCycleChoice n => exact completes_nextCycleChoice n s
  | scanEnd n samples => exact completes_scanEnd n samples s
  | rollCallEnd n samples => exact completes_rollCallEnd n samples s
  | wakeHold n => exact completes_wakeHold n s
  | firstExpiry e => exact completes_firstExpiry e s
  | secondExpiry e => exact completes_secondExpiry e s
  | _ => exact ⟨_, rfl⟩

/-! ### The resets -/

theorem port_held (s : State) (t : Taker) : s.held.port t = TakerPort.reset := by
  simp [State.held, State.reset, State.port]

theorem string_held (s : State) (n : StringNo) : s.held.string n = StringEngine.reset := by
  simp [State.held, State.reset, State.string]

theorem cond_held (s : State) (r : CondRow) : s.held.cond r = Condition.reset := by
  simp [State.held, State.reset, State.cond]

theorem malert_held (s : State) : s.held.malert = false := by
  rw [Bool.eq_false_iff, ne_eq, managementAlertHasTwoCauses s.held]
  rintro (⟨r, hlatched, -⟩ | ⟨hdone, -⟩)
  · rw [cond_held] at hlatched
    cases hlatched
  · cases hdone

/-- Settles O4: the two resets lead to the part held in reset, whose blocks are the reset values. -/
theorem resetTakesEveryBlockToItsResetValues :
    Obligations.ResetTakesEveryBlockToItsResetValues := by
  refine ⟨fun s held hr => ⟨fun hlong => ?_, fun hshort => ?_⟩, fun s => ?_⟩
  · simp [exec, execResetnRelease, hr, Config.resetHold, Nat.not_lt.mpr hlong]
  · simp [exec, execResetnRelease, hr, Config.resetHold, hshort]
  · refine ⟨s.held, rfl, rfl, rfl, rfl, entry_held s, ?queues, ?onStacks, ?lists, rfl, ?ports, ?limits,
      rfl, rfl, ?strings, ?masks, ?cmd, ?res, rfl, rfl, rfl, rfl, rfl, rfl, ?conditions, ?alerts,
      malert_held s⟩
    case queues => intro k; simp [State.held, State.reset, State.queue]
    case onStacks => intro k; simp [State.held, State.reset, State.stack]
    case lists => intro k; simp [State.held, State.reset, State.withdrawnOf]
    case ports => intro k; rw [port_held]; simp [TakerPort.reset]
    case limits => intro r; simp [State.held, State.reset]
    case strings => intro n; rw [string_held]; simp [StringEngine.reset]
    case masks => intro c; simp [State.held, State.reset]
    case cmd => intro k; simp [State.held, State.reset]
    case res => intro k; simp [State.held, State.reset]
    case conditions => intro r; rw [cond_held]; rfl
    case alerts =>
      intro k
      rw [State.tkalert, claimAnswer_of_halted rfl (by rw [port_held]; rfl)]

/-! ### Ignored writes and accesses in reset -/

theorem claimInReset_frame (s : State) (group : TakerSet) :
    s.claimInReset group = { s with takers := (s.claimInReset group).takers } := by
  have hfold : ∀ (l : List Taker) (u : State), u = { s with takers := u.takers } →
      l.foldl (fun s t => if group.getLsbD t.val then s.returnRead t 0#32 else s) u =
        { s with takers := (l.foldl
          (fun s t => if group.getLsbD t.val then s.returnRead t 0#32 else s) u).takers } := by
    intro l
    induction l with
    | nil => exact fun u hu => hu
    | cons t l ih =>
      intro u hu
      refine ih _ ?_
      beta_reduce
      split
      · rw [hu]; rfl
      · exact hu
  exact hfold _ s rfl

theorem port_claimInReset (s : State) (group : TakerSet) (t : Taker) :
    (s.claimInReset group).port t =
      if group.getLsbD t.val then { s.port t with readData := some 0#32 } else s.port t := by
  have hfold : ∀ (l : List Taker) (s : State),
      (l.foldl (fun s t => if group.getLsbD t.val then s.returnRead t 0#32 else s) s).port t =
        if t ∈ l ∧ group.getLsbD t.val = true then { s.port t with readData := some 0#32 }
        else s.port t := by
    intro l
    induction l with
    | nil => simp
    | cons x l ih =>
      intro s
      rw [List.foldl_cons, ih]
      by_cases hx : x = t
      · subst hx
        cases hbit : group.getLsbD x.val <;> simp [State.returnRead]
      · have hsame : (if group.getLsbD x.val then s.returnRead x 0#32 else s).port t =
            s.port t := by
          split
          · exact State.port_setPort_ne _ _ _ _ hx
          · rfl
        simp only [hsame, List.mem_cons, Ne.symm hx, false_or]
  have hmem : ∀ p t : Taker, t ∈ passOrder p := by decide
  rw [State.claimInReset, hfold]
  simp only [hmem, true_and]

/-- Settles O5: the address decides whether a write is taken, and RESETn that none is. -/
theorem ignoredWritesAndAccessesInReset : Obligations.IgnoredWritesAndAccessesInReset := by
  refine ⟨fun s a v hwf => ?_, fun s hr => ⟨fun a => ?_, fun i hi => ?_, fun t => ?_,
    fun group => ?_, ?_⟩⟩
  · have hnone : (wordAt a).takesWrite = false := by simpa [Instr.wellFormed] using hwf
    simp [exec, execIgnoredWrite, hnone, State.access]
  · simp [State.readWord, hr]
  · rcases Bool.or_eq_true_iff.mp hi with hgo | hwindow
    · rw [exec_of_isGoWrite hgo, State.access_ignored _ _ hr]
    · cases i with
      | done | yield | floor | post | treset | ignoredWrite | cmdWrite | mctlWrite =>
        exact congrArg Host.Outcome.next (State.access_ignored _ _ hr)
      | _ => cases hwindow
  · simp [exec, execPeek, hr, State.returnRead]
  · exact ⟨s.claimInReset group, by simp [exec, execClaim, hr], claimInReset_frame s group,
      port_claimInReset s group⟩
  · simp [exec, execMstatRead, hr]

end Sys2Proof.Claims
end

section
/-! PROOFS. The value of a packed word as a sum, the completion of a command (O26, O27), and MSTAT and MCTL
(O23). -/

namespace Sys2Proof.Machine.Bits

/-! ### Packed words as numbers -/

/-- The lowest bit of the first of several fields; 32 where there is none. -/
def lowest : List (Nat × Nat) → Nat
  | [] => 32
  | f :: _ => f.1

/-- The fields stand one above the other, none reaching into the next or past bit 31. -/
def Spaced : List (Nat × Nat) → Prop
  | [] => True
  | f :: fs => f.1 ≤ lowest fs ∧ f.2 * 2 ^ f.1 < 2 ^ lowest fs ∧ Spaced fs

/-- The sum of the fields at their places. -/
def total : List (Nat × Nat) → Nat
  | [] => 0
  | f :: fs => f.2 * 2 ^ f.1 + total fs

theorem lowest_le {fs : List (Nat × Nat)} (h : Spaced fs) : lowest fs ≤ 32 := by
  induction fs with
  | nil => exact le_refl 32
  | cons f fs ih =>
    obtain ⟨hle, -, hfs⟩ := h
    exact hle.trans (ih hfs)

theorem dvd_total {fs : List (Nat × Nat)} (h : Spaced fs) : 2 ^ lowest fs ∣ total fs := by
  induction fs with
  | nil => exact Nat.dvd_zero _
  | cons f fs ih =>
    obtain ⟨hle, -, hfs⟩ := h
    exact Nat.dvd_add (Nat.dvd_mul_left _ _) ((Nat.pow_dvd_pow 2 hle).trans (ih hfs))

theorem toNat_put {lo v : Nat} (h : v * 2 ^ lo < 2 ^ 32) : (put lo v).toNat = v * 2 ^ lo := by
  have hv : v < 2 ^ 32 := (Nat.le_mul_of_pos_right v (Nat.two_pow_pos lo)).trans_lt h
  rw [put, BitVec.toNat_shiftLeft, BitVec.toNat_ofNat, Nat.mod_eq_of_lt hv, Nat.shiftLeft_eq,
    Nat.mod_eq_of_lt h]

/-- Fields that stand one above the other add up. -/
theorem toNat_pack {fs : List (Nat × Nat)} (h : Spaced fs) : (pack fs).toNat = total fs := by
  induction fs with
  | nil => rfl
  | cons f fs ih =>
    obtain ⟨hle, hlt, hfs⟩ := h
    obtain ⟨a, ha⟩ := dvd_total hfs
    have hfit : f.2 * 2 ^ f.1 < 2 ^ 32 :=
      hlt.trans_le (Nat.pow_le_pow_right (by decide) (lowest_le hfs))
    rw [pack, BitVec.toNat_or, toNat_put hfit, ih hfs, total, ha, Nat.or_comm,
      ← Nat.two_pow_add_eq_or_of_lt hlt, Nat.add_comm]

theorem pack_eq_ofNat {fs : List (Nat × Nat)} (h : Spaced fs) : pack fs = BitVec.ofNat 32 (total fs) := by
  rw [← toNat_pack h, BitVec.ofNat_toNat, BitVec.setWidth_eq]

theorem put_zero (v : Nat) : put 0 v = BitVec.ofNat 32 v := by
  rw [put, BitVec.shiftLeft_zero]

theorem bit_eq (w : Word) (i : Nat) : bit w i = w.getLsbD i := rfl

theorem get_eq (w : Word) (lo len : Nat) : get w lo len = (w.extractLsb' lo len).toNat := rfl

theorem get_lt (w : Word) (lo len : Nat) : get w lo len < 2 ^ len := (w.extractLsb' lo len).isLt

/-- A field compared with a number. -/
theorem get_eq_iff {w : Word} {lo len n : Nat} (h : n < 2 ^ len) :
    get w lo len = n ↔ w.extractLsb' lo len = BitVec.ofNat len n := by
  rw [← BitVec.toNat_inj, BitVec.toNat_ofNat, Nat.mod_eq_of_lt h, get_eq]

end Sys2Proof.Machine.Bits

namespace Sys2Proof.Claims

open Sys2Proof.Machine Sys2Proof.Machine.Bits

/-! ### Completion -/

theorem code_lt_16 (r : ResultCode) : r.code < 16 := by cases r <;> decide

theorem toNat_headWord (c : CommandCode) (r : ResultCode) :
    (headWord c r).toNat = c.toNat + 256 * r.code := by
  have hc := c.isLt
  have hr := code_lt_16 r
  rw [headWord, toNat_pack (by norm_num [Spaced, lowest]; omega)]
  norm_num [total]
  omega

/-- Settles O26: the sixteen words of the result, and the slot with its flags. -/
theorem completionWritesTheResultWhole : Obligations.CompletionWritesTheResultWhole := by
  intro s c r ws _
  refine ⟨rfl, ?_, fun i => ?_⟩
  · rw [← toNat_headWord]
    simp [State.complete]
  · simp only [State.complete, Vector.getElem_ofFn, List.getD_cons_succ]
    split
    · rw [List.getD_eq_getElem _ _ ‹_›]
    · rw [List.getD_eq_default _ _ (Nat.not_lt.mp ‹_›)]

/-! ### A command that is taken -/

/-- A write to GO with the slot IDLE runs the row of the record (R146). -/
theorem exec_of_ready {i : Instr} (hi : isGoWrite i = true) {s : State} {c : CommandCode} {r : GoRow}
    (h : Ready s c) (hrow : s.commandCode = c → recordRow s = r) :
    exec i s = .next (s.runRow r) := by
  obtain ⟨hr, hslot, hcode⟩ := h
  rw [exec_goWrite_of_released hi hr, writeGo_of_idle hslot, hrow hcode]

/-- Settles O27: the three codes that name no command. -/
theorem undefinedCommandIsBadField : Obligations.UndefinedCommandIsBadField := by
  intro s go c h hc
  have ⟨_, _, hcode⟩ := h
  rw [exec_of_ready rfl h (r := .undefinedCommand) fun hcode => by
    rcases hc with rfl | rfl | rfl <;> simp [recordRow, hcode]]
  rw [State.runRow, State.runUndefined, hcode]

/-! ### MSTAT and MCTL -/

theorem readWord_mctl {s : State} (hr : s.inReset = false) : s.readWord 75#7 = s.mctlWord := by
  rw [State.readWord, hr]
  rfl

theorem mctlWord_eq (s : State) : s.mctlWord = if s.doneEnable then 1#32 else 0#32 := by
  rw [State.mctlWord]
  cases s.doneEnable <;> rfl

/-- The fields of MSTAT (R149). -/
theorem mstatWord_fields (s : State) :
    s.mstatWord.getLsbD 0 = s.busy ∧ s.mstatWord.getLsbD 1 = s.doneFlag ∧
      s.mstatWord.extractLsb' 8 4 = s.commandShown ∧
      (s.mstatWord.extractLsb' 16 4).toNat = s.resultCode.code := by
  have hbusy := flag_lt s.busy
  have hdone := flag_lt s.doneFlag
  have hcommand := s.commandShown.isLt
  have hresult := code_lt_16 s.resultCode
  rw [State.mstatWord, getLsbD_eq_extract _ 0, getLsbD_eq_extract _ 1]
  simp (disch := omega) only [extract_pack_cons, extract_pack_nil, extract_put_same,
    extract_put_above, extract_put_below, BitVec.zero_or, BitVec.or_zero]
  exact ⟨getLsbD_ofNat_flag _, getLsbD_ofNat_flag _, by simp, Nat.mod_eq_of_lt hresult⟩

/-- Settles O23: the fields of MSTAT with the flag its read clears, and the enable of MCTL. -/
theorem mstatReadAndMctlWrite : Obligations.MstatReadAndMctlWrite := by
  refine ⟨fun s v hr => ⟨congrArg Host.Outcome.next (s.access_run _ hr), ?_, s.doneRequest_iff⟩,
    fun s hr => ?_⟩
  · rw [readWord_mctl hr, mctlWord_eq]
  · obtain ⟨hbusy, hdone, hcommand, hresult⟩ := mstatWord_fields s
    refine ⟨s.mstatWord, by simp [exec, execMstatRead, hr], hbusy, hdone, fun h => ?_, fun r h => ?_,
      fun n h => ?_, hresult⟩
    · rw [hcommand, State.commandShown, h]
    · rw [hcommand, commandShown_of_sweep h]
    · rw [hcommand, commandShown_of_resetDirectory h]

end Sys2Proof.Claims
end

section
/-! PROOFS. BIND: its record (O28), its effect (O29) and its refusals (O30). -/

namespace Sys2Proof.Claims

open Sys2Proof.Machine Sys2Proof.Machine.Bits

/-! ### The fields of a record -/

theorem entryNo?_eq_none {v : Nat} : entryNo? v = none ↔ 96 ≤ v := by
  unfold entryNo?
  split
  · simp only [reduceCtorEq, false_iff]
    omega
  · simp only [true_iff]
    omega

theorem levelField_eq_zero {w : Word} : levelField w = 0 ↔ w.extractLsb' 0 4 = 0#4 := by
  rw [Fin.ext_iff, level_field_val]
  exact get_eq_iff (by decide)

theorem bindTarget_eq_none {w : Word} :
    bindTarget w = none ↔ w.getLsbD 7 = false ∧ 96 ≤ (w.extractLsb' 0 7).toNat := by
  unfold bindTarget
  rw [bit_eq]
  cases w.getLsbD 7 with
  | true => simp
  | false => simp [entryNo?_eq_none, get_eq]

/-- AUTO, or the entry number (R20). -/
theorem bindTarget_eq_some {w : Word} {o : Option EntryNo} (h : bindTarget w = some o) :
    (o = none ↔ w.getLsbD 7 = true) ∧ ∀ e, o = some e → e.val = (w.extractLsb' 0 7).toNat := by
  unfold bindTarget at h
  rw [bit_eq] at h
  cases hbit : w.getLsbD 7 with
  | true =>
    rw [hbit, if_pos rfl] at h
    cases h
    simp
  | false =>
    rw [hbit, if_neg Bool.false_ne_true] at h
    obtain ⟨e, he, rfl⟩ := Option.map_eq_some_iff.mp h
    refine ⟨by simp, ?_⟩
    rintro _ ⟨⟩
    exact entryNo?_eq_some.mp he

/-- The key word is refused for kind 2 or 3, and for a string or slot out of range of a WIRE (R20). -/
theorem keyField_eq_none {w : Word} :
    keyField w = none ↔
      2 ≤ (w.extractLsb' 0 2).toNat ∨
        (w.extractLsb' 0 2 = 0#2 ∧ (w.extractLsb' 4 2 = 3#2 ∨ 24 ≤ (w.extractLsb' 8 5).toNat)) := by
  have hstring : w.extractLsb' 4 2 = 3#2 ↔ ¬ get w 4 2 < 3 := by rw [get_eq]; bv_omega
  have hkind : w.extractLsb' 0 2 = 0#2 ↔ get w 0 2 = 0 := (get_eq_iff (by decide)).symm
  rw [hstring, hkind, ← get_eq, ← get_eq]
  unfold keyField
  repeat' split
  all_goals simp only [reduceCtorEq, false_iff, true_iff]
  all_goals omega

/-- The key that an accepted key word names. -/
theorem keyField_eq_some {w : Word} {key : Key} (h : keyField w = some key) :
    (∀ c, key = .posted c →
      w.extractLsb' 0 2 = 1#2 ∧ c.val = (w.extractLsb' 24 4).toNat) ∧
    ∀ n k m, key = .wire n k m →
      w.extractLsb' 0 2 = 0#2 ∧ n.val = (w.extractLsb' 4 2).toNat ∧
        k.val = (w.extractLsb' 8 5).toNat ∧ (m = none ↔ w.getLsbD 19 = false) ∧
        ∀ j, m = some j → j.val = (w.extractLsb' 16 3).toNat := by
  unfold keyField at h
  split at h
  · rename_i hkind
    split at h
    · rename_i hrange
      obtain ⟨hstring, hslot⟩ := hrange
      cases h
      refine ⟨nofun, ?_⟩
      rintro n k m ⟨⟩
      refine ⟨(get_eq_iff (by decide)).mp hkind, Nat.mod_eq_of_lt hstring, Nat.mod_eq_of_lt hslot, ?_⟩
      rw [bit_eq]
      cases w.getLsbD 19 with
      | true =>
        refine ⟨by simp, ?_⟩
        rintro _ ⟨⟩
        exact (Fin.val_ofNat ..).trans (Nat.mod_eq_of_lt (get_lt w 16 3))
      | false => simp
    · cases h
  · split at h
    · rename_i hkind
      cases h
      refine ⟨?_, nofun⟩
      rintro c ⟨⟩
      exact ⟨(get_eq_iff (by decide)).mp hkind, (Fin.val_ofNat ..).trans (Nat.mod_eq_of_lt (get_lt w 24 4))⟩
    · cases h

theorem isPosted_of_keyField {w : Word} {key : Key} (h : keyField w = some key) :
    key.isPosted = true ↔ w.extractLsb' 0 2 = 1#2 := by
  obtain ⟨hposted, hwire⟩ := keyField_eq_some h
  cases hk : key with
  | posted c => simpa [Key.isPosted] using (hposted c hk).1
  | wire n k m => simp [Key.isPosted, (hwire n k m hk).1]

/-- Where the fields of an accepted BIND stand, in the readers' own terms. -/
theorem bindRecord_eq_some {s : State} {f : BindRecord} (h : bindRecord s = some f) :
    bindTarget s.cmd[1] = some f.target ∧ keyField s.cmd[2] = some f.key ∧
      f.level = levelField s.cmd[3] ∧ f.sense = senseOf (bit s.cmd[3] 4) ∧
      f.eligible = eligibleField s.cmd[3] ∧ f.limitClass = limitClassField s.cmd[3] ∧
      f.armed = bit s.cmd[3] 24 ∧ f.tag = tagField s.cmd[4] := by
  unfold bindRecord at h
  split at h
  · split at h
    · cases h
    · cases h
      exact ⟨‹_›, ‹_›, rfl, rfl, rfl, rfl, rfl, rfl⟩
  · cases h
  · cases h

theorem bindRecord_eq_none {s : State} :
    bindRecord s = none ↔
      bindTarget s.cmd[1] = none ∨ keyField s.cmd[2] = none ∨ levelField s.cmd[3] = 0 ∨
        eligibleField s.cmd[3] = 0#4 ∨
        ((s.cmd[2]).extractLsb' 0 2 = 1#2 ∧ bit s.cmd[3] 4 = true) := by
  unfold bindRecord
  split
  · rename_i target key htarget hkey
    rw [htarget, hkey]
    simp only [isPosted_of_keyField hkey, reduceCtorEq, false_or, ite_eq_left_iff, imp_false,
      not_not]
  · simp [*]
  · simp [*]

/-- Settles O28: the record is refused where one of its readers refuses, and else holds what they read. -/
theorem bindRecordIsCheckedAndRead : Obligations.BindRecordIsCheckedAndRead := by
  intro s
  refine ⟨?_, fun f hf => ?_⟩
  · rw [bindRecord_eq_none, bindTarget_eq_none, keyField_eq_none, levelField_eq_zero, or_assoc]
    rfl
  · obtain ⟨htarget, hkey, hlevel, hsense, heligible, hlimit, harmed, htag⟩ := bindRecord_eq_some hf
    obtain ⟨hauto, hnumber⟩ := bindTarget_eq_some htarget
    obtain ⟨hposted, hwire⟩ := keyField_eq_some hkey
    exact ⟨hauto, hnumber, hposted, hwire, by rw [hlevel, level_field_val], hsense, heligible,
      by rw [hlimit, limit_class_field_val], harmed, htag⟩

/-! ### The command -/

theorem boundEntryWord_eq (e : EntryNo) : boundEntryWord e = presentEntry e := by
  have he := e.isLt
  rw [boundEntryWord, pack_eq_ofNat (by norm_num [Spaced, lowest]; omega), presentEntry]
  norm_num [total, Nat.add_comm]

theorem exec_bind_of_ready {s : State} (h : Ready s 1#4) (go : Word) :
    exec (.bind go) s = .next s.runBind :=
  exec_of_ready (r := .bind) rfl h fun hcode => by simp [recordRow, hcode]

/-- A search of the directory names the lowest-numbered entry of those it looks for. -/
theorem find?_allEntries_eq_some {p : EntryNo → Bool} {e : EntryNo} :
    allEntries.find? p = some e ↔ p e = true ∧ ∀ e', e' < e → p e' = false := by
  rw [allEntries, ← Fin.find?_eq_find?_finRange]
  exact Fin.find?_eq_some_iff

theorem clashingEntry_eq_some {s : State} {key : Key} {x : EntryNo} {b : Entry}
    (hb : s.entry x = some b) (hkey : key.clash b.key = true)
    (hbelow : ∀ x' b', x' < x → s.entry x' = some b' → key.clash b'.key = false) :
    s.clashingEntry key = some x := by
  refine find?_allEntries_eq_some.mpr ⟨by simp [State.keyClashes, hb, hkey], fun x' hlt => ?_⟩
  unfold State.keyClashes
  split
  · rfl
  · exact hbelow x' _ hlt ‹_›

theorem lowestFree_eq_some {s : State} {e : EntryNo} (he : s.entry e = none)
    (hbelow : ∀ e', e' < e → s.entry e' ≠ none) : s.lowestFree = some e :=
  find?_allEntries_eq_some.mpr ⟨by rw [he]; rfl, fun e' hlt => by
    simpa [Option.isSome_iff_ne_none] using hbelow e' hlt⟩

theorem lowestFree_eq_none {s : State} : s.lowestFree = none ↔ ∀ e, s.entry e ≠ none := by
  simp [State.lowestFree, allEntries, Option.isNone_iff_eq_none]

/-- The entry a BIND takes: the one named, or the lowest FREE one (R20, R21). -/
def bindsAt (s : State) (f : BindRecord) (e : EntryNo) : Prop :=
  s.entry e = none ∧ (f.target = some e ∨ (f.target = none ∧ s.lowestFree = some e))

theorem runBind_of_bindsAt {s : State} {f : BindRecord} {e : EntryNo} (hf : bindRecord s = some f)
    (he : bindsAt s f e) : s.runBind = s.bindAt f e := by
  obtain ⟨hfree, htarget | ⟨htarget, hlowest⟩⟩ := he
  · simp [State.runBind, hf, htarget, hfree]
  · simp [State.runBind, hf, htarget, hlowest]

/-- Settles O29: the record is made at the entry the BIND takes, where no key clashes. -/
theorem bindBindsTheEntry : Obligations.BindBindsTheEntry := by
  intro s go f e h hf he htarget hkey
  have hat : bindsAt s f e := by
    refine ⟨he, htarget.imp_right fun hauto => ?_⟩
    obtain ⟨hnone, hbelow⟩ := hauto
    exact ⟨hnone, lowestFree_eq_some he hbelow⟩
  have hclash : s.clashingEntry f.key = none := clashingEntry_eq_none.mpr hkey
  rw [exec_bind_of_ready h, runBind_of_bindsAt hf hat, State.bindAt, hclash]
  refine ⟨_, rfl, ?_, ?_, fun e' hne => ?_⟩
  · rw [boundEntryWord_eq]
    rfl
  · rw [State.entry_complete, State.entry_setEntry_same]
    rfl
  · rw [State.entry_complete, State.entry_setEntry_ne s e _ e' hne.symm]

/-- Settles O30: the checks of R20 in their order. -/
theorem bindRefusalsChangeNothing : Obligations.BindRefusalsChangeNothing := by
  intro s go h
  rw [exec_bind_of_ready h]
  refine ⟨fun hf => ?_, fun f hf => ⟨fun e htarget he => ?_, fun hauto hfull => ?_,
    fun x b hfree hb hkey hbelow => ?_⟩⟩
  · simp only [State.runBind, hf]
  · have hbound : (s.entry e).isSome = true := Option.isSome_iff_ne_none.mpr he
    simp only [State.runBind, hf, htarget, hbound, if_true, boundEntryWord_eq]
  · simp only [State.runBind, hf, hauto, lowestFree_eq_none.mpr hfull]
  · have hat : ∃ e, bindsAt s f e := by
      rcases hfree with ⟨e, htarget, he⟩ | ⟨hauto, e, he⟩
      · exact ⟨e, he, .inl htarget⟩
      · cases hlowest : s.lowestFree with
        | none => exact absurd he (lowestFree_eq_none.mp hlowest e)
        | some e' =>
          obtain ⟨hfree, -⟩ := find?_allEntries_eq_some.mp hlowest
          exact ⟨e', Option.isNone_iff_eq_none.mp hfree, .inr ⟨hauto, hlowest⟩⟩
    obtain ⟨e, hat⟩ := hat
    rw [runBind_of_bindsAt hf hat, State.bindAt, clashingEntry_eq_some hb hkey hbelow,
      ← boundEntryWord_eq x]

end Sys2Proof.Claims
end

section
/-! PROOFS. AMEND: its effect outside service and on a HELD entry (O31, O32), its record and its refusals
(O33). -/

namespace Sys2Proof.Claims

open Sys2Proof.Machine Sys2Proof.Machine.Bits

/-! ### The words of the results -/

theorem stateCode_le (o : Option Entry) : stateCode o ≤ 5 := by
  cases o with
  | none => exact Nat.zero_le 5
  | some b => cases hp : b.phase <;> simp [stateCode, Phase.code, hp]

theorem entryStateWord_eq (s : State) (e : EntryNo) :
    s.entryStateWord e = entryAndState e (stateCode (s.entry e)) := by
  have he := e.isLt
  have hcode := stateCode_le (s.entry e)
  rw [State.entryStateWord, pack_eq_ofNat (by norm_num [Spaced, lowest]; omega), entryAndState]
  norm_num [total, Nat.mul_comm]

/-! ### The command -/

theorem exec_amend_of_ready {s : State} (h : Ready s 2#4) (go : Word) :
    exec (.amend go) s = .next s.runAmend :=
  exec_of_ready (r := .amend) rfl h fun hcode => by simp [recordRow, hcode]

/-- An accepted AMEND changes entries and queues alone. -/
theorem amendEntry_frame (s : State) (f : AmendRecord) (e : EntryNo) (b : Entry) :
    s.amendEntry f e b =
      { s with entries := (s.amendEntry f e b).entries, queues := (s.amendEntry f e b).queues } := by
  simp only [State.amendEntry]
  split
  case h_3 =>
    split
    · rw [State.dropQueue_frame]; rfl
    · split
      · rfl
      · rw [State.pushTail_frame, State.dropQueue_frame]; rfl
  all_goals rfl

/-- An AMEND that no check refuses (R22, R154). -/
theorem runAmend_of_accepted {s : State} {f : AmendRecord} {b : Entry} (hf : amendRecord s = some f)
    (hb : s.entry f.entry = some b) (hsense : f.sense = some .level → b.key.isPosted = false)
    (hp : b.isRetiring = false) :
    s.runAmend =
      (s.amendEntry f f.entry b).complete 2#4 (f.result b)
        [entryAndState f.entry (stateCode (some (f.amended b)))] := by
  have hkept : ¬ (f.sense = some .level ∧ b.key.isPosted = true) := by
    rintro ⟨hl, hk⟩
    rw [hsense hl] at hk
    cases hk
  have hafter : (s.amendEntry f f.entry b).entry f.entry = some (f.amended b) := by
    rw [State.entry_amendEntry hb, if_pos rfl]
  rw [← hafter, ← entryStateWord_eq]
  simp only [State.runAmend, hf, hb, if_neg hkept, hp, Bool.false_eq_true, if_false]

/-- Outside service an AMEND gives every named field at once (R23, R24, R25). -/
theorem amended_outside_service {f : AmendRecord} {b : Entry}
    (hp : b.phase = .dormant ∨ b.phase = .armed ∨ b.phase = .raised) :
    f.amended b =
      { b with
        level := f.level.getD b.level, sense := f.sense.getD b.sense
        eligible := f.eligible.getD b.eligible, tag := f.tag.getD b.tag
        limitClass := f.limitClass.getD b.limitClass, phase := (f.amended b).phase } := by
  rcases hp with hp | hp | hp <;>
    simp [AmendRecord.amended, hp, AmendRecord.applyFields, AmendRecord.newLevel]

theorem phase_amended_of_dormant {f : AmendRecord} {b : Entry} (hp : b.phase = .dormant) :
    (f.amended b).phase = if f.enable = some true then .armed else .dormant := by
  simp [AmendRecord.amended, hp]

theorem phase_amended_of_armed {f : AmendRecord} {b : Entry} (hp : b.phase = .armed) :
    (f.amended b).phase = if f.enable = some false then .dormant else .armed := by
  simp [AmendRecord.amended, hp]

theorem phase_amended_of_raised {f : AmendRecord} {b : Entry} (hp : b.phase = .raised) :
    (f.amended b).phase = if f.enable = some false then .dormant else .raised := by
  simp [AmendRecord.amended, hp]

/-- Settles O31: the record and the queues after an AMEND, by the entry's state. -/
theorem amendOutsideServiceActsAtOnce : Obligations.AmendOutsideServiceActsAtOnce := by
  intro s go f b k h hf hb hlevel hsense hk hp
  subst hk
  have hretiring : b.isRetiring = false := by
    rcases hp with hp | hp | hp <;> simp [Entry.isRetiring, hp]
  have hresult : f.result b = .ok := by
    rcases hp with hp | hp | hp <;> simp [AmendRecord.result, Entry.isHeld, hp]
  have hqueue := fun hp => State.queue_amendEntry_raised hp s f.entry (newLevel_ne_zero hf hlevel)
  have hentry := State.entry_amendEntry hb f
  rw [exec_amend_of_ready h, runAmend_of_accepted hf hb hsense hretiring, hresult]
  refine ⟨_, (f.amended b).phase, rfl, ?frame, ?entry, fun e' hne => ?others,
    phase_amended_of_dormant, phase_amended_of_armed, phase_amended_of_raised, fun hp => ?still,
    fun hp hoff => ?disabled, fun hp hon hsame => ?kept, fun hp hon hmoved => ?moved⟩
  case frame =>
    rw [State.entry_complete, hentry, if_pos rfl, amendEntry_frame]
    rfl
  case entry =>
    rw [State.entry_complete, hentry, if_pos rfl]
    exact congrArg some (amended_outside_service hp)
  case others => rw [State.entry_complete, hentry, if_neg hne]
  case still => rw [State.queues_complete, State.queues_amendEntry_of_not_raised hp]
  case disabled =>
    intro j
    rw [State.queue_complete, hqueue hp, if_pos hoff]
  case kept =>
    rw [State.queues_complete]
    simp [State.amendEntry, hp, hon, hsame]
  case moved =>
    intro j
    have hne : f.newLevel b ≠ b.level := hmoved
    rw [State.queue_complete, hqueue hp, if_neg hon, if_neg hne]
    rfl

/-- Settles O32: the staging of a HELD entry's level and enable state, and the result that says so. -/
theorem amendOfHeldEntryIsStaged : Obligations.AmendOfHeldEntryIsStaged := by
  intro s go f b w h hf hb hp hsense
  have hretiring : b.isRetiring = false := by simp [Entry.isRetiring, hp]
  have hresult : f.result b = if f.level = none ∧ f.enable = none then .ok else .staged := by
    cases hl : f.level <;> cases he : f.enable <;>
      simp [AmendRecord.result, Entry.isHeld, hp, hl, he]
  have hamended : f.amended b = { f.applyFields b with phase := .held (f.stage b w) } := by
    simp only [AmendRecord.amended, hp]
  have hentry := State.entry_amendEntry hb f
  rw [exec_amend_of_ready h, runAmend_of_accepted hf hb hsense hretiring, hresult]
  refine ⟨_, f.stage b w, rfl, ?frame, ?entry, fun e' hne => ?others, rfl, fun hl => ?noLevel,
    fun k hl => ?level, ?enable⟩
  case frame =>
    have hcode : stateCode (some (f.amended b)) = 4 := by rw [hamended]; rfl
    rw [hcode]
    simp only [State.amendEntry, hp]
    rfl
  case entry =>
    rw [State.entry_complete, hentry, if_pos rfl, hamended]
    rfl
  case others => rw [State.entry_complete, hentry, if_neg hne]
  case noLevel => simp [AmendRecord.stage, hl]
  case level => simp [AmendRecord.stage, hl]
  case enable =>
    cases he : f.enable with
    | none => simp [AmendRecord.stage, he]
    | some on => cases on <;> simp [AmendRecord.stage, he]

/-! ### The record and the refusals -/

theorem amendRecord_eq_none {s : State} :
    amendRecord s = none ↔
      96 ≤ ((s.cmd[1]).extractLsb' 0 7).toNat ∨ (s.cmd[2]).extractLsb' 8 5 ≠ 0#5 ∨
      ((s.cmd[2]).getLsbD 0 = true ∧ (s.cmd[3]).extractLsb' 0 4 = 0#4) ∨
      ((s.cmd[2]).getLsbD 2 = true ∧ (s.cmd[3]).extractLsb' 8 4 = 0#4) := by
  have hentry : recordEntry s = none ↔ 96 ≤ ((s.cmd[1]).extractLsb' 0 7).toNat := entryNo?_eq_none
  have hmask : get s.cmd[2] 8 5 ≠ 0 ↔ (s.cmd[2]).extractLsb' 8 5 ≠ 0#5 :=
    not_congr (get_eq_iff (by decide))
  rw [← hentry, ← hmask, ← levelField_eq_zero]
  unfold amendRecord
  split
  · simp [*]
  · rename_i e he
    simp only [he, reduceCtorEq, false_or, ite_eq_left_iff, imp_false, not_not]
    rfl

/-- Settles O33: the checks in their order, and the fields of an accepted record. -/
theorem amendRefusalsChangeNothing : Obligations.AmendRefusalsChangeNothing := by
  intro s go h
  rw [exec_amend_of_ready h]
  refine ⟨amendRecord_eq_none, fun hf => ?badField, fun f hf => ?_⟩
  case badField => simp only [State.runAmend, hf]
  obtain ⟨hentry, hlevel, hsense, heligible, htag, hlimit, henable⟩ := amendRecord_fields hf
  refine ⟨hentry, ?level, hsense, heligible, htag, ?limit, henable, fun hb => ?free,
    fun b hb => ⟨fun hl hk => ?posted, fun w hkept hp => ?retiring⟩⟩
  case level => rw [hlevel, named_map, level_field_val]
  case limit => rw [hlimit, named_map, limit_class_field_val]
  case free =>
    simp only [State.runAmend, hf, hb, entryStateWord_eq]
    rfl
  case posted => simp only [State.runAmend, hf, hb, hl, hk, and_self, if_true]
  case retiring =>
    have hpasses : ¬ (f.sense = some .level ∧ b.key.isPosted = true) := by
      rintro ⟨hl, hk⟩
      rw [hkept hl] at hk
      cases hk
    have hretiring : b.isRetiring = true := by simp [Entry.isRetiring, hp]
    have hcode : stateCode (some b) = 5 := by simp [stateCode, hp, Phase.code]
    simp only [State.runAmend, hf, hb, if_neg hpasses, hretiring, if_true, entryStateWord_eq, hcode]

end Sys2Proof.Claims
end

section
/-! PROOFS. RETIRE (O34), FIND and LOOKUP (O35). -/

namespace Sys2Proof.Claims

open Sys2Proof.Machine Sys2Proof.Machine.Bits

/-! ### RETIRE -/

theorem exec_retire_of_ready {s : State} (h : Ready s 3#4) (go : Word) :
    exec (.retire go) s = .next s.runRetire :=
  exec_of_ready (r := .retire) rfl h fun hcode => by simp [recordRow, hcode]

theorem recordEntry_eq_none {s : State} :
    recordEntry s = none ↔ 96 ≤ ((s.cmd[1]).extractLsb' 0 7).toNat := entryNo?_eq_none

/-- The word of a RETIRE answered DEFERRED: the entry RETIRING, and its holder (R154). -/
theorem deferredWord_eq {s : State} {e : EntryNo} (hcode : stateCode (s.entry e) = 5) (t : Taker) :
    s.deferredWord e t = BitVec.ofNat 32 (e.val + 256 * 5 + 4096 * t.val + 32768) := by
  have he := e.isLt
  have ht := t.isLt
  have htotal : total [(0, e.val), (8, 5), (12, t.val), (15, 1)] =
      e.val + 256 * 5 + 4096 * t.val + 32768 := by
    norm_num [total]
    omega
  rw [State.deferredWord, hcode, pack_eq_ofNat (by norm_num [Spaced, lowest]; omega), htotal]

theorem stateCode_of_retiring {b : Entry} {w : Service} (hp : b.phase = .retiring w) :
    stateCode (some b) = 5 := by
  simp [stateCode, hp, Phase.code]

theorem free_of_waiting {s : State} {e : EntryNo} {b : Entry} (hb : s.entry e = some b)
    (hp : b.phase = .dormant ∨ b.phase = .armed) : s.free e = s.setEntry e none := by
  rcases hp with hp | hp <;> simp [State.free, hb, hp]

/-- Settles O34: freeing outside service, and RETIRING in it. -/
theorem retireActsByState : Obligations.RetireActsByState := by
  intro s go h
  rw [exec_retire_of_ready h]
  refine ⟨fun hrange => ?range, fun e hnumber => ?_⟩
  case range => simp only [State.runRetire, recordEntry_eq_none.mpr hrange]
  have he : recordEntry s = some e := recordEntry_eq_some.mpr hnumber.symm
  refine ⟨fun hb => ?free, fun b hb => ⟨fun hp => ?waiting, fun hp => ?raised, fun w hp => ?held,
    fun w hp => ?retiring⟩⟩
  case free =>
    simp only [State.runRetire, he, hb, entryStateWord_eq]
    rfl
  case waiting =>
    have hfree := free_of_waiting hb hp
    rcases hp with hp | hp <;>
    · simp only [State.runRetire, he, hb, hp, State.retireEntry, hfree, entryStateWord_eq,
        State.entry_setEntry_same]
      rfl
  case raised =>
    simp only [State.runRetire, he, hb, hp, State.retireEntry, entryStateWord_eq, State.free_entry]
    have hframe : s.free e = { s.setEntry e none with queues := (s.free e).queues } := by
      simp only [State.free, hb, hp]
      rw [State.dropQueue_frame]
      rfl
    refine ⟨_, rfl, ?_, fun k => ?_⟩
    · rw [hframe]
      rfl
    · rw [State.queue_complete, State.queue_free hb]
      simp only [hp, true_and]
  case held =>
    have hcode : stateCode ((s.setEntry e
        (some { b with phase := .retiring w.retire })).entry e) = 5 := by
      rw [State.entry_setEntry_same]
      exact stateCode_of_retiring rfl
    simp only [State.runRetire, he, hb, hp, State.retireEntry, deferredWord_eq hcode]
    rfl
  case retiring =>
    have hcode : stateCode (s.entry e) = 5 := by
      rw [hb]
      exact stateCode_of_retiring hp
    simp only [State.runRetire, he, hb, hp, State.retireEntry, deferredWord_eq hcode]

/-! ### FIND -/

theorem exec_find_of_ready {s : State} (h : Ready s 5#4) (go : Word) :
    exec (.find go) s = .next s.runFind :=
  exec_of_ready (r := .find) rfl h fun hcode => by simp [recordRow, hcode]

theorem exec_lookup_of_ready {s : State} (h : Ready s 4#4) (go : Word) :
    exec (.lookup go) s = .next s.runLookup :=
  exec_of_ready (r := .lookup) rfl h fun hcode => by simp [recordRow, hcode]

/-! ### The words of a LOOKUP (10.7) -/

theorem lookupHead_eq (e : EntryNo) (b : Entry) :
    (pack [(0, e.val), (8, b.phase.code), (12, flag b.key.isPosted)]).toNat =
      e.val + 256 * stateCode (some b) + (if b.key.isPosted then 4096 else 0) := by
  have he := e.isLt
  have hcode : b.phase.code ≤ 5 := stateCode_le (some b)
  have hflag := flag_lt b.key.isPosted
  rw [toNat_pack (by norm_num [Spaced, lowest]; omega), stateCode]
  cases b.key.isPosted <;> norm_num [total, flag] <;> omega

theorem keyWord_wire (n : StringNo) (k : SlotNo) :
    (keyWord (.wire n k none)).toNat = 16 * n.val + 256 * k.val := by
  have hn := n.isLt
  have hk := k.isLt
  rw [keyWord, toNat_pack (by norm_num [Spaced, lowest]; omega)]
  norm_num [total]
  omega

theorem keyWord_mark (n : StringNo) (k : SlotNo) (m : Mark) :
    (keyWord (.wire n k (some m))).toNat = 16 * n.val + 256 * k.val + 65536 * m.val + 524288 := by
  have hn := n.isLt
  have hk := k.isLt
  have hm := m.isLt
  rw [keyWord, toNat_pack (by norm_num [Spaced, lowest]; omega)]
  norm_num [total]
  omega

theorem keyWord_posted (c : Channel) : (keyWord (.posted c)).toNat = 16777216 * c.val := by
  have hc := c.isLt
  rw [keyWord, toNat_put (by omega)]
  omega

theorem put_value_zero (lo : Nat) : put lo 0 = 0#32 := by simp [put]

/-- RES3 of a LOOKUP in service: the staged level with its present bit last (10.7). -/
theorem serviceWord_of_service {b : Entry} {v : Service} (hv : b.service = some v) :
    serviceWord b =
      pack [(0, b.level.val), (4, b.sense.code), (8, b.eligible.toNat), (16, b.limitClass.val),
        (28, flag b.reoffered)] |||
      (pack [(25, flag v.stagedDormancy), (26, flag v.again), (27, flag v.overdue)] |||
        pack [(20, (v.stagedLevel.getD 0).val), (24, flag v.stagedLevel.isSome)]) := by
  have hzero : pack [(20, 0), (24, 0)] = 0#32 := rfl
  cases hs : v.stagedLevel with
  | none => simp only [serviceWord, hv, hs, Option.getD_none, Option.isSome_none, Fin.val_zero, flag,
      Bool.false_eq_true, if_false, hzero]
  | some k => simp only [serviceWord, hv, hs, Option.getD_some, Option.isSome_some, flag, if_true]

/-- RES5 of a LOOKUP in service: the remaining count with its present bit last (10.7). -/
theorem limitWord_of_service {b : Entry} {v : Service} (hv : b.service = some v) :
    limitWord b =
      pack [(17, v.expiries.val), (20, v.holder.val), (22, 1)] |||
        pack [(0, ((v.limit.map RunningLimit.remaining).getD 0#16).toNat),
          (16, flag v.limit.isSome)] := by
  have hzero : pack [(0, 0), (16, 0)] = 0#32 := rfl
  cases hl : v.limit with
  | none => simp only [limitWord, hv, hl, Option.map_none, Option.getD_none, Option.isSome_none,
      BitVec.toNat_zero, flag, Bool.false_eq_true, if_false, hzero]
  | some l => simp only [limitWord, hv, hl, Option.map_some, Option.getD_some, Option.isSome_some,
      flag, if_true]

theorem serviceWord_order (a b c d e f g h i j : Word) :
    (a ||| (b ||| (c ||| (d ||| j)))) ||| ((g ||| (h ||| i)) ||| (e ||| f)) =
      a ||| (b ||| (c ||| (d ||| (e ||| (f ||| (g ||| (h ||| (i ||| j)))))))) := by
  ac_rfl

theorem limitWord_order (a b c d e : Word) :
    (c ||| (d ||| e)) ||| (a ||| b) = a ||| (b ||| (c ||| (d ||| e))) := by
  ac_rfl

/-- RES3 of a LOOKUP as one list of fields. -/
theorem serviceWord_eq_pack (b : Entry) :
    serviceWord b =
      pack [(0, b.level.val), (4, b.sense.code), (8, b.eligible.toNat), (16, b.limitClass.val),
        (20, ((b.service.bind Service.stagedLevel).getD 0).val),
        (24, flag (b.service.bind Service.stagedLevel).isSome),
        (25, flag ((b.service.map Service.stagedDormancy).getD false)),
        (26, flag ((b.service.map Service.again).getD false)),
        (27, flag ((b.service.map Service.overdue).getD false)), (28, flag b.reoffered)] := by
  cases hv : b.service with
  | none => simp [serviceWord, hv, pack, flag, put_value_zero]
  | some v =>
    simp only [serviceWord_of_service hv, pack, Option.bind_some, Option.map_some,
      Option.getD_some, BitVec.or_zero]
    exact serviceWord_order ..

/-- RES5 of a LOOKUP as one list of fields. -/
theorem limitWord_eq_pack (b : Entry) :
    limitWord b =
      pack [(0, (((b.service.bind Service.limit).map RunningLimit.remaining).getD 0#16).toNat),
        (16, flag (b.service.bind Service.limit).isSome),
        (17, ((b.service.map Service.expiries).getD 0).val),
        (20, ((b.service.map Service.holder).getD 0).val), (22, flag b.service.isSome)] := by
  cases hv : b.service with
  | none => simp [limitWord, hv, pack, flag, put_value_zero]
  | some v =>
    have hone : put 22 1 = put 22 (flag (some v).isSome) := rfl
    simp only [limitWord_of_service hv, hone, pack, Option.bind_some, Option.map_some,
      Option.getD_some, BitVec.or_zero]
    exact limitWord_order ..

theorem senseCode_eq (x : Sense) : x.code = flag (decide (x = .level)) := by
  cases x <;> rfl

theorem serviceWord_fields (b : Entry) :
    ((serviceWord b).extractLsb' 0 4).toNat = b.level.val ∧
      (serviceWord b).getLsbD 4 = decide (b.sense = .level) ∧
      (serviceWord b).extractLsb' 8 4 = b.eligible ∧
      ((serviceWord b).extractLsb' 16 3).toNat = b.limitClass.val ∧
      (serviceWord b).getLsbD 28 = b.reoffered ∧
      (serviceWord b).getLsbD 24 = (b.service.bind Service.stagedLevel).isSome ∧
      ((serviceWord b).extractLsb' 20 4).toNat =
        ((b.service.bind Service.stagedLevel).getD 0).val ∧
      (serviceWord b).getLsbD 25 = (b.service.map Service.stagedDormancy).getD false ∧
      (serviceWord b).getLsbD 26 = (b.service.map Service.again).getD false ∧
      (serviceWord b).getLsbD 27 = (b.service.map Service.overdue).getD false := by
  have hlevel := b.level.isLt
  have hsense := flag_lt (decide (b.sense = .level))
  have heligible := b.eligible.isLt
  have hlimit := b.limitClass.isLt
  have hstaged := ((b.service.bind Service.stagedLevel).getD 0).isLt
  have hpresent := flag_lt (b.service.bind Service.stagedLevel).isSome
  have hdormancy := flag_lt ((b.service.map Service.stagedDormancy).getD false)
  have hagain := flag_lt ((b.service.map Service.again).getD false)
  have hoverdue := flag_lt ((b.service.map Service.overdue).getD false)
  have hreoffered := flag_lt b.reoffered
  rw [serviceWord_eq_pack, senseCode_eq]
  simp only [getLsbD_eq_extract _ 4, getLsbD_eq_extract _ 24, getLsbD_eq_extract _ 25,
    getLsbD_eq_extract _ 26, getLsbD_eq_extract _ 27, getLsbD_eq_extract _ 28]
  simp (disch := omega) only [extract_pack_cons, extract_pack_nil, extract_put_same,
    extract_put_above, extract_put_below, BitVec.zero_or, BitVec.or_zero]
  exact ⟨Nat.mod_eq_of_lt hlevel, getLsbD_ofNat_flag _, by simp, Nat.mod_eq_of_lt hlimit,
    getLsbD_ofNat_flag _, getLsbD_ofNat_flag _, Nat.mod_eq_of_lt hstaged, getLsbD_ofNat_flag _,
    getLsbD_ofNat_flag _, getLsbD_ofNat_flag _⟩

theorem expiriesBit_eq (x : Fin 2) : (BitVec.ofNat 1 x.val).getLsbD 0 = decide (x = 1) := by
  revert x; decide

theorem limitWord_fields (b : Entry) :
    (limitWord b).getLsbD 22 = b.service.isSome ∧
      ((limitWord b).extractLsb' 20 2).toNat = ((b.service.map Service.holder).getD 0).val ∧
      (limitWord b).getLsbD 17 = decide ((b.service.map Service.expiries).getD 0 = 1) ∧
      (limitWord b).getLsbD 16 = (b.service.bind Service.limit).isSome ∧
      (limitWord b).extractLsb' 0 16 =
        ((b.service.bind Service.limit).map RunningLimit.remaining).getD 0#16 := by
  have hremaining := (((b.service.bind Service.limit).map RunningLimit.remaining).getD 0#16).isLt
  have hpresent := flag_lt (b.service.bind Service.limit).isSome
  have hexpiries := ((b.service.map Service.expiries).getD 0).isLt
  have hholder := ((b.service.map Service.holder).getD 0).isLt
  have hservice := flag_lt b.service.isSome
  rw [limitWord_eq_pack]
  simp only [getLsbD_eq_extract _ 22, getLsbD_eq_extract _ 17, getLsbD_eq_extract _ 16]
  simp (disch := omega) only [extract_pack_cons, extract_pack_nil, extract_put_same,
    extract_put_above, extract_put_below, BitVec.zero_or, BitVec.or_zero]
  exact ⟨getLsbD_ofNat_flag _, Nat.mod_eq_of_lt hholder, expiriesBit_eq _, getLsbD_ofNat_flag _,
    by simp⟩

theorem tagAndHits_fields (b : Entry) :
    (pack [(0, b.tag.toNat), (16, b.hits.toNat)]).extractLsb' 0 16 = b.tag ∧
      (pack [(0, b.tag.toNat), (16, b.hits.toNat)]).extractLsb' 16 16 = b.hits := by
  have htag := b.tag.isLt
  have hhits := b.hits.isLt
  simp (disch := omega) only [extract_pack_cons, extract_pack_nil, extract_put_same,
    extract_put_above, extract_put_below, BitVec.zero_or, BitVec.or_zero]
  exact ⟨by simp, by simp⟩

/-- Settles O35: the search by key, and the words of a bound record. -/
theorem lookupAndFindReadTheDirectory : Obligations.LookupAndFindReadTheDirectory := by
  refine ⟨fun s go h => ?find, fun s go h => ?lookup⟩
  case find =>
    rw [exec_find_of_ready h]
    refine ⟨fun hkey => ?_, fun key hkey => ⟨fun hnone => ?_, fun e he => ?_⟩⟩
    · simp only [State.runFind, hkey]
    · simp only [State.runFind, hkey, State.findKey_eq_none.mpr hnone]
    · simp only [State.runFind, hkey, State.findKey_of_unique he, entryStateWord_eq]
  case lookup =>
    rw [exec_lookup_of_ready h]
    refine ⟨fun hrange => ?_, fun e hnumber => ?_⟩
    · simp only [State.runLookup, recordEntry_eq_none.mpr hrange]
    have he : recordEntry s = some e := recordEntry_eq_some.mpr hnumber.symm
    refine ⟨fun hb => ?_, fun b hb => ?_⟩
    · simp only [State.runLookup, he, hb, entryStateWord_eq]
      rfl
    · obtain ⟨hlevel, hsense, heligible, hlimit, hreoffered, hpresent, hstaged, hdormancy, hagain,
        hoverdue⟩ := serviceWord_fields b
      obtain ⟨htag, hhits⟩ := tagAndHits_fields b
      refine ⟨_, keyWord b.key, serviceWord b, _, limitWord b, ?_, lookupHead_eq e b, fun n k hk => ?_,
        fun n k m hk => ?_, fun c hk => ?_, hlevel, hsense, heligible, hlimit, hreoffered, hpresent,
        hstaged, hdormancy, hagain, hoverdue, htag, hhits, limitWord_fields b⟩
      · simp only [State.runLookup, he, hb, lookupWords]
      · rw [hk, keyWord_wire]
      · rw [hk, keyWord_mark]
      · rw [hk, keyWord_posted]

end Sys2Proof.Claims
end

section
/-! PROOFS. SWEEP: its record and start (O36), and one examination (O37). -/

namespace Sys2Proof.Claims

open Sys2Proof.Machine Sys2Proof.Machine.Bits

/-! ### The record -/

theorem filterRefused_iff {w : Word} : FilterRefused w ↔ filterField w = none := by
  have hcode := get_lt w 0 3
  have hstring := get_lt w 8 2
  rw [filterField_eq_none, FilterRefused, ← get_eq_iff (n := 6) (by decide),
    ← get_eq_iff (n := 7) (by decide), ← get_eq_iff (lo := 0) (len := 3) (n := 2) (by decide),
    ← get_eq_iff (lo := 0) (len := 3) (n := 3) (by decide),
    ← get_eq_iff (lo := 8) (len := 2) (n := 3) (by decide), ← get_eq]
  omega

theorem filterNamed_of_field {w : Word} {f : SourceFilter} (h : filterField w = some f) :
    FilterNamed w f := by
  have hfields := filterField_eq_some h
  rw [get_eq_iff (n := 0) (by decide), get_eq_iff (n := 1) (by decide),
    get_eq_iff (n := 2) (by decide), get_eq_iff (n := 3) (by decide),
    get_eq_iff (n := 4) (by decide), get_eq_iff (n := 5) (by decide)] at hfields
  exact hfields

theorem sweepRecord_eq_none {s : State} :
    sweepRecord s = none ↔
      recordEntry s = none ∨ (s.cmd[2]).extractLsb' 0 6 = 0#6 ∨ get s.cmd[3] 0 4 = 0 ∨
        get s.cmd[3] 8 4 < get s.cmd[3] 0 4 ∨ filterField s.cmd[4] = none := by
  unfold sweepRecord
  split
  · rename_i e f he hf
    simp only [he, hf, reduceCtorEq, false_or, or_false, ite_eq_left_iff, imp_false, not_not]
  · simp [*]
  · simp [*]

/-- Settles O36: the checks of R159, and the run that an accepted SWEEP starts. -/
theorem sweepStartsAtTheCursor : Obligations.SweepStartsAtTheCursor := by
  intro s go h
  have hexec : exec (.sweep go) s = .next s.runSweep :=
    exec_of_ready (r := .sweep) rfl h fun hcode => by simp [recordRow, hcode]
  rw [hexec]
  refine ⟨?refused, fun hr => ?badField, fun r hr => ?accepted⟩
  case refused =>
    rw [sweepRecord_eq_none, recordEntry_eq_none, get_eq_iff (n := 0) (by decide),
      filterRefused_iff]
    rfl
  case badField => simp only [State.runSweep, hr]
  case accepted =>
    refine ⟨by simp only [State.runSweep, hr], ?_⟩
    unfold sweepRecord at hr
    split at hr
    · rename_i e f he hf
      split at hr
      · cases hr
      · cases hr
        exact ⟨recordEntry_eq_some.mp he, rfl, rfl,
          (Fin.val_ofNat ..).trans (Nat.mod_eq_of_lt (get_lt s.cmd[3] 0 4)),
          (Fin.val_ofNat ..).trans (Nat.mod_eq_of_lt (get_lt s.cmd[3] 8 4)),
          filterNamed_of_field hf⟩
    · cases hr
    · cases hr

/-! ### One examination -/

/-- The source filter test of R160. -/
theorem passes_iff {f : SourceFilter} {key : Key} :
    f.passes key = true ↔
      f = .any ∨
        (∃ n k m, key = .wire n k m ∧ (f = .wire ∨ f = .wireString n ∨ f = .wireSlot n k)) ∨
        ∃ c, key = .posted c ∧ (f = .posted ∨ f = .postedChannel c) := by
  cases key with
  | posted c => cases f <;> simp [SourceFilter.passes]
  | wire n k m =>
    cases f with
    | wireSlot n' k' => simp [SourceFilter.passes, eq_comm (a := n'), eq_comm (a := k')]
    | _ => simp [SourceFilter.passes]

theorem matches_iff {r : SweepRun} {o : Option Entry} : Matches r o ↔ r.matchesEntry o = true := by
  cases o with
  | none => simp [Matches, SweepRun.matchesEntry]
  | some b =>
    simp only [Matches, SweepRun.matchesEntry, stateCode, Bool.and_eq_true, decide_eq_true_iff,
      and_assoc, passes_iff]

theorem sweepPage_eq {s : State} {r : SweepRun} {page : List EntryNo}
    (hin : Matches r (s.entry r.next) → page = r.page ++ [r.next])
    (hout : ¬ Matches r (s.entry r.next) → page = r.page) : s.sweepPage r = page := by
  rw [matches_iff] at hin hout
  unfold State.sweepPage
  split
  · exact (hin ‹_›).symm
  · exact (hout ‹_›).symm

theorem exec_sweepExamination_of_sweep {s : State} {r : SweepRun} (h : s.slot = .sweep r) :
    exec .sweepExamination s = .next (s.examine r) := by
  simp only [exec, execSweepExamination, h]

theorem nextEntry_eq_some {e : EntryNo} (h : e.val < 95) :
    ∃ e' : EntryNo, e'.val = e.val + 1 ∧ nextEntry e = some e' :=
  ⟨⟨e.val + 1, by omega⟩, rfl, entryNo?_eq_some.mpr rfl⟩

theorem nextEntry_eq_none {e : EntryNo} (h : e.val = 95) : nextEntry e = none :=
  entryNo?_eq_none.mpr (by omega)

/-- The words of a full page with entries left (R161). -/
theorem sweepWords_full {page : List EntryNo} (hlength : page.length = 12) (c : EntryNo) :
    sweepWords page (some c) =
      BitVec.ofNat 32 (12 + 256 * c.val) :: page.map fun e => BitVec.ofNat 32 e.val := by
  have hc := c.isLt
  have htotal : total [(0, 12), (8, c.val)] = 12 + 256 * c.val := by
    norm_num [total]
    omega
  simp only [sweepWords, hlength, put_zero]
  rw [pack_eq_ofNat (by norm_num [Spaced, lowest]; omega), htotal]

/-- The words of the last page (R161). -/
theorem sweepWords_end {page : List EntryNo} (hlength : page.length ≤ 12) :
    sweepWords page none =
      BitVec.ofNat 32 (page.length + 32768) :: page.map fun e => BitVec.ofNat 32 e.val := by
  have htotal : total [(0, page.length), (15, 1)] = page.length + 32768 := by
    norm_num [total]
  simp only [sweepWords, put_zero]
  rw [pack_eq_ofNat (by norm_num [Spaced, lowest]; omega), htotal]

/-- Settles O37: the page after the examination, and what it ends. -/
theorem sweepExaminesOneEntry : Obligations.SweepExaminesOneEntry := by
  intro s r hslot page hin hout
  have hpage := sweepPage_eq hin hout
  rw [exec_sweepExamination_of_sweep hslot, State.examine, hpage, Config.sweepPage]
  refine ⟨fun hlength hnext => ?goes, fun hlength hnext => ?full, fun hlength hnext => ?last⟩
  case goes =>
    obtain ⟨e, he, hsome⟩ := nextEntry_eq_some hnext
    exact ⟨e, he, by rw [if_neg (Nat.not_le.mpr hlength), hsome]⟩
  case full =>
    obtain ⟨e, he, hsome⟩ := nextEntry_eq_some hnext
    rw [if_pos hlength.ge, hsome, sweepWords_full hlength, he]
  case last =>
    rw [nextEntry_eq_none hnext, sweepWords_end hlength]
    split <;> rfl

end Sys2Proof.Claims
end

section
/-! PROOFS. The management POST and PERMIT (O38) and TAKER (O39). -/

namespace Sys2Proof.Claims

open Sys2Proof.Machine Sys2Proof.Machine.Bits

/-! ### POST -/

theorem recordChannel_val (s : State) :
    (recordChannel s).val = ((s.cmd[1]).extractLsb' 0 4).toNat :=
  (Fin.val_ofNat ..).trans (Nat.mod_eq_of_lt (get_lt s.cmd[1] 0 4))

theorem recordChannel_eq {s : State} {c : Channel}
    (h : c.val = ((s.cmd[1]).extractLsb' 0 4).toNat) : recordChannel s = c :=
  Fin.ext ((recordChannel_val s).trans h.symm)

theorem exec_postCommand_of_ready {s : State} (h : Ready s 7#4) (go : Word) :
    exec (.postCommand go) s = .next s.runPostCommand :=
  exec_of_ready (r := .postCommand) rfl h fun hcode => by simp [recordRow, hcode]

/-! ### PERMIT -/

theorem exec_permit_of_ready {s : State} (h : Ready s 8#4) (go : Word) :
    exec (.permit go) s = .next s.runPermit :=
  exec_of_ready (r := .permit) rfl h fun hcode => by simp [recordRow, hcode]

/-- Of a packed word, a field that one listed value alone reaches is that value's. -/
theorem extract_pack_of_mem {fs : List (Nat × Nat)} {f : Nat × Nat} {start len : Nat} (hf : f ∈ fs)
    (hothers : ∀ g ∈ fs, g ≠ f → (put g.1 g.2).extractLsb' start len = 0#len) :
    (pack fs).extractLsb' start len = (put f.1 f.2).extractLsb' start len := by
  have hzero : ∀ gs : List (Nat × Nat), (∀ g ∈ gs, g ∈ fs ∧ g ≠ f) →
      (pack gs).extractLsb' start len = 0#len := by
    intro gs hgs
    induction gs with
    | nil => exact extract_pack_nil start len
    | cons g gs ih =>
      obtain ⟨hg, hne⟩ := hgs g List.mem_cons_self
      rw [extract_pack_cons, hothers g hg hne, ih fun x hx => hgs x (List.mem_cons_of_mem g hx),
        BitVec.or_zero]
  induction fs with
  | nil => cases hf
  | cons g gs ih =>
    have hrest := fun x hx hne => hothers x (List.mem_cons_of_mem g hx) hne
    rw [extract_pack_cons]
    by_cases hmem : f ∈ gs
    · have hrestZero : ∀ hs : List (Nat × Nat), (∀ x ∈ hs, x ∈ gs ∧ x ≠ f) →
          (pack hs).extractLsb' start len = 0#len := fun hs h => hzero hs fun x hx =>
        ⟨List.mem_cons_of_mem g (h x hx).1, (h x hx).2⟩
      rw [ih hmem hrest hrestZero]
      by_cases hg : g = f
      · rw [hg, BitVec.or_self]
      · rw [hothers g List.mem_cons_self hg, BitVec.zero_or]
    · have hg : f = g := (List.mem_cons.mp hf).resolve_right hmem
      rw [hzero gs fun x hx => ⟨List.mem_cons_of_mem g hx, fun h => hmem (h ▸ hx)⟩, BitVec.or_zero, hg]

/-- Values of w bits side by side: the field of one of them. -/
theorem extract_pack_map {n w : Nat} (base : Nat) (v : Fin n → Nat) (hv : ∀ j, v j < 2 ^ w)
    (hfit : base + w * n ≤ 32) (rest : List (Nat × Nat)) (i : Fin n)
    (hrest : ∀ g ∈ rest, (put g.1 g.2).extractLsb' (base + w * i.val) w = 0#w) :
    (pack (((List.finRange n).map fun j => (base + w * j.val, v j)) ++ rest)).extractLsb'
      (base + w * i.val) w = BitVec.ofNat w (v i) := by
  have hi : w * (i.val + 1) ≤ w * n := Nat.mul_le_mul_left w i.isLt
  rw [Nat.mul_succ] at hi
  rw [extract_pack_of_mem (f := (base + w * i.val, v i))]
  · exact extract_put_same (by omega)
  · exact List.mem_append_left _ (List.mem_map.mpr ⟨i, List.mem_finRange i, rfl⟩)
  · intro g hg hne
    rcases List.mem_append.mp hg with hg | hg
    · obtain ⟨j, -, rfl⟩ := List.mem_map.mp hg
      rcases Nat.lt_trichotomy j.val i.val with hlt | heq | hgt
      · have hstep : w * (j.val + 1) ≤ w * i.val := Nat.mul_le_mul_left w hlt
        rw [Nat.mul_succ] at hstep
        exact extract_put_above (by omega)
          ((hv j).trans_le (Nat.pow_le_pow_right (by decide) (by omega)))
      · exact absurd (by rw [Fin.ext heq]) hne
      · have hstep : w * (i.val + 1) ≤ w * j.val := Nat.mul_le_mul_left w hgt
        rw [Nat.mul_succ] at hstep
        exact extract_put_below (by omega)
    · exact hrest g hg

/-- The eight masks of one PERMIT word stand four bits apart (10.6). -/
theorem masksWord_field (s : State) (base : Nat) (j : Fin 8) :
    (s.masksWord base).extractLsb' (4 * j.val) 4 = s.masks[Fin.ofNat 16 (base + j.val)] := by
  have hfield := extract_pack_map (w := 4) 0
    (fun j : Fin 8 => (s.masks[Fin.ofNat 16 (base + j.val)]).toNat)
    (fun j => BitVec.isLt _) (by decide) [] j nofun
  rw [State.masksWord]
  simpa only [Nat.zero_add, List.append_nil, BitVec.ofNat_toNat, BitVec.setWidth_eq] using hfield

/-- The mask of channel c in the two words of a PERMIT. -/
theorem permitWords_field (s : State) (c : Channel) :
    s.masks[c] =
      if c.val < 8 then (s.masksWord 0).extractLsb' (4 * c.val) 4
      else (s.masksWord 8).extractLsb' (4 * (c.val - 8)) 4 := by
  split
  · have hfield := masksWord_field s 0 ⟨c.val, ‹_›⟩
    simp only [Nat.zero_add, Fin.ofNat_val_eq_self] at hfield
    exact hfield.symm
  · have hfield := masksWord_field s 8 ⟨c.val - 8, by omega⟩
    have hc : 8 + (c.val - 8) = c.val := by omega
    simp only [hc, Fin.ofNat_val_eq_self] at hfield
    exact hfield.symm

theorem masks_setMask (s : State) (c c' : Channel) (m : TakerSet) :
    (s.setMask c m).masks[c'] = if c' = c then m else s.masks[c'] := by
  simp only [State.setMask, Fin.getElem_fin, Vector.getElem_set, Fin.ext_iff, eq_comm]

/-- Settles O38: the POST by what is bound to its channel, and the PERMIT by its refusal and its bit 8. -/
theorem managementPostAndPermit : Obligations.ManagementPostAndPermit := by
  refine ⟨fun s go c h hc => ?post, fun s go h => ?permit⟩
  case post =>
    have hchannel := recordChannel_eq hc
    rw [exec_postCommand_of_ready h]
    refine ⟨fun hnone => ?_, fun e he => ?_⟩
    · simp only [State.runPostCommand, State.deliverPost, hchannel, State.findKey_eq_none.mpr hnone]
    · simp only [State.runPostCommand, State.deliverPost, hchannel, State.findKey_of_unique he,
        boundEntryWord_eq]
  case permit =>
    have hrefused : get s.cmd[2] 4 28 ≠ 0 ↔ (s.cmd[2]).extractLsb' 4 28 ≠ 0#28 :=
      not_congr (get_eq_iff (by decide))
    rw [exec_permit_of_ready h]
    refine ⟨fun hnamed hbits => ?_, fun haccepted => ?_⟩
    · have hbit : bit s.cmd[1] 8 = true := hnamed
      simp only [State.runPermit, hbit, if_true, if_pos (hrefused.mpr hbits)]
    · cases hnamed : (s.cmd[1]).getLsbD 8 with
      | false =>
        have hbit : bit s.cmd[1] 8 = false := hnamed
        refine ⟨_, s.masksWord 0, s.masksWord 8, rfl, ?_, fun c => ?_, fun c => ?_⟩
        · simp only [State.runPermit, hbit, Bool.false_eq_true, if_false]
          rfl
        · simp [State.runPermit, hbit]
        · simp only [State.runPermit, hbit, Bool.false_eq_true, if_false, State.masks_complete]
          exact permitWords_field s c
      | true =>
        have hbit : bit s.cmd[1] 8 = true := hnamed
        have hbits : ¬ get s.cmd[2] 4 28 ≠ 0 := fun hne => hrefused.mp hne (haccepted hnamed)
        have hrun : s.runPermit =
            (s.setMask (recordChannel s) ((s.cmd[2]).extractLsb' 0 4)).complete 8#4 .ok
              (s.setMask (recordChannel s) ((s.cmd[2]).extractLsb' 0 4)).permitWords := by
          simp only [State.runPermit, hbit, if_true, if_neg hbits]
        rw [hrun]
        refine ⟨_, _, _, rfl, rfl, fun c => ?_, fun c => ?_⟩
        · rw [State.masks_complete, masks_setMask]
          simp only [Fin.ext_iff, recordChannel_val, true_and]
        · rw [State.masks_complete]
          exact permitWords_field _ c

/-! ### TAKER -/

theorem position_eq (l : List EntryNo) (i : Nat) :
    position l i = ((l[i]?).map Fin.val).getD 127 := by
  unfold position
  cases l[i]? <;> rfl

theorem position_lt (l : List EntryNo) (i : Nat) : position l i < 2 ^ 7 := by
  rw [position_eq]
  cases h : l[i]? with
  | none => simp
  | some e => simpa using e.isLt.trans (by decide)

/-- A position of a list word (R72, R155). -/
theorem packList_position (l : List EntryNo) (j : Fin 4) :
    ((packList l).extractLsb' (7 * j.val) 7).toNat = ((l[j.val]?).map Fin.val).getD 127 := by
  have hfield := extract_pack_map (w := 7) 0 (fun j : Fin 4 => position l j.val)
    (fun j => position_lt l j.val) (by decide) [(29, l.length)] j fun g hg => by
      rw [List.mem_singleton.mp hg]
      exact extract_put_below (by omega)
  rw [Nat.zero_add] at hfield
  have hlist : packList l = pack (((List.finRange 4).map fun j =>
      (0 + 7 * j.val, position l j.val)) ++ [(29, l.length)]) := rfl
  rw [hlist, hfield, BitVec.toNat_ofNat, Nat.mod_eq_of_lt (position_lt l j.val), position_eq]

theorem packList_length {l : List EntryNo} (h : l.length ≤ 4) :
    ((packList l).extractLsb' 29 3).toNat = l.length := by
  have h0 := position_lt l 0
  have h1 := position_lt l 1
  have h2 := position_lt l 2
  have h3 := position_lt l 3
  rw [packList]
  simp (disch := omega) only [extract_pack_cons, extract_pack_nil, extract_put_same,
    extract_put_above, BitVec.zero_or, BitVec.or_zero]
  exact Nat.mod_eq_of_lt (by omega)

theorem recordTaker_eq_none {s : State} :
    recordTaker s = none ↔ 4 ≤ ((s.cmd[1]).extractLsb' 0 3).toNat := by
  rw [← get_eq]
  unfold recordTaker
  split
  · simp only [reduceCtorEq, false_iff]
    omega
  · simp only [true_iff]
    omega

theorem recordTaker_eq_some {s : State} {t : Taker}
    (h : t.val = ((s.cmd[1]).extractLsb' 0 3).toNat) : recordTaker s = some t := by
  rw [← get_eq] at h
  rw [recordTaker, if_pos (h ▸ t.isLt), ← h, Fin.ofNat_val_eq_self]

/-- Row r of a TAKER whose record names no taker, and of one whose record does, with `on` the enable state it
gives. -/
def TakerRowRuns (s : State) (r : GoRow) (on : Bool → Bool) : Prop :=
  (recordTaker s = none → s.runRow r = s.complete 9#4 .badField []) ∧
    ∀ t, recordTaker s = some t →
      s.runRow r = (s.setEnabled t (on (s.port t).enabled)).complete 9#4 .ok
        ((s.setEnabled t (on (s.port t).enabled)).takerView t)

theorem setEnabled_self (s : State) (t : Taker) : s.setEnabled t (s.port t).enabled = s := by
  have hset : s.takers.set t.val (s.port t) t.isLt = s.takers := Vector.set_getElem_self t.isLt
  exact congrArg (fun ports => { s with takers := ports }) hset

theorem takerNone_runs (s : State) : TakerRowRuns s .takerNone id := by
  refine ⟨fun hnone => ?_, fun t ht => ?_⟩
  · simp only [State.runRow, State.runTakerNone, hnone]
  · simp only [State.runRow, State.runTakerNone, ht, id, setEnabled_self]

theorem takerEnable_runs (s : State) : TakerRowRuns s .takerEnable fun _ => true := by
  refine ⟨fun hnone => ?_, fun t ht => ?_⟩
  · simp only [State.runRow, State.runTakerEnable, hnone]
  · simp only [State.runRow, State.runTakerEnable, ht]

theorem takerHalt_runs (s : State) : TakerRowRuns s .takerHalt fun _ => false := by
  refine ⟨fun hnone => ?_, fun t ht => ?_⟩
  · simp only [State.runRow, State.runTakerHalt, hnone]
  · simp only [State.runRow, State.runTakerHalt, ht]

/-- The first word of a taker's view (R155). -/
theorem takerView_head (on : Bool) (k : Level) :
    (pack [(0, flag on), (8, k.val)]).getLsbD 0 = on ∧
      ((pack [(0, flag on), (8, k.val)]).extractLsb' 8 4).toNat = k.val := by
  have hon := flag_lt on
  have hk := k.isLt
  rw [getLsbD_eq_extract _ 0]
  simp (disch := omega) only [extract_pack_cons, extract_pack_nil, extract_put_same,
    extract_put_above, extract_put_below, BitVec.zero_or, BitVec.or_zero]
  exact ⟨getLsbD_ofNat_flag on, Nat.mod_eq_of_lt hk⟩

theorem recordRow_taker {s : State} (hcode : s.commandCode = 9#4) :
    recordRow s = takerRow (get s.cmd[1] 8 2) := by
  simp [recordRow, hcode, takerAction]

/-- A TAKER with action code n runs the row of that action (10.5). -/
theorem exec_taker_of_ready {s : State} (h : Ready s 9#4) {i : Instr} (hi : isGoWrite i = true)
    {n : Nat} (hn : n < 2 ^ 2) (haction : BitVec.ofNat 2 n = (s.cmd[1]).extractLsb' 8 2) :
    exec i s = .next (s.runRow (takerRow n)) := by
  refine exec_of_ready hi h fun hcode => ?_
  rw [recordRow_taker hcode, (get_eq_iff hn).mpr haction.symm]

/-- Settles O39: the row of the action, run for the taker that the record names. -/
theorem takerCommandEnablesHaltsOrReads : Obligations.TakerCommandEnablesHaltsOrReads := by
  intro s go action h haction
  refine ⟨fun hbad => ?_, fun i on hi => ?_⟩
  · rw [hbad] at haction
    rw [exec_taker_of_ready h rfl (n := 3) (by decide) haction]
    rfl
  have hrow : ∃ r, exec i s = .next (s.runRow r) ∧ TakerRowRuns s r on := by
    rcases hi with ⟨rfl, rfl, rfl⟩ | ⟨rfl, rfl, rfl⟩ | ⟨rfl, rfl, rfl⟩
    · exact ⟨_, exec_taker_of_ready h rfl (n := 0) (by decide) haction, takerNone_runs s⟩
    · exact ⟨_, exec_taker_of_ready h rfl (n := 1) (by decide) haction, takerEnable_runs s⟩
    · exact ⟨_, exec_taker_of_ready h rfl (n := 2) (by decide) haction, takerHalt_runs s⟩
  obtain ⟨r, hexec, hnone, hsome⟩ := hrow
  refine ⟨fun hrange => ?_, fun t ht => ?_⟩
  · rw [hexec, hnone (recordTaker_eq_none.mpr hrange)]
  · have hport : (s.setEnabled t (on (s.port t).enabled)).port t =
        { s.port t with enabled := on (s.port t).enabled } := State.port_setPort_same s t _
    obtain ⟨henabled, hfloor⟩ := takerView_head (on (s.port t).enabled) (s.port t).floor
    refine ⟨_, packList (s.stack t).reverse, packList (s.withdrawnOf t), ?_, henabled, hfloor,
      packList_position _, fun hlength => ?_, packList_position _, packList_length⟩
    · rw [hexec, hsome t (recordTaker_eq_some ht)]
      simp only [State.takerView, hport]
      rfl
    · rw [packList_length (by rwa [List.length_reverse]), List.length_reverse]

end Sys2Proof.Claims
end

section
/-! PROOFS. STRING and the wake hold: START and STOP (O40), MODE, DIVISOR, the refusals and the view (O41). -/

namespace Sys2Proof.Claims

open Sys2Proof.Machine Sys2Proof.Machine.Bits

/-! ### The command -/

theorem recordString_eq_none {s : State} :
    recordString s = none ↔ (s.cmd[1]).extractLsb' 0 2 = 3#2 := by
  have hlt := get_lt s.cmd[1] 0 2
  rw [← get_eq_iff (by decide)]
  unfold recordString
  split
  · simp only [reduceCtorEq, false_iff]
    omega
  · simp only [true_iff]
    omega

theorem recordString_eq_some {s : State} {n : StringNo}
    (h : (s.cmd[1]).extractLsb' 0 2 = BitVec.ofNat 2 n.val) : recordString s = some n := by
  have hn : n.val < 2 ^ 2 := n.isLt.trans (by decide)
  have hget := (get_eq_iff hn).mpr h
  rw [recordString, hget, if_pos n.isLt, Fin.ofNat_val_eq_self]

theorem recordRow_string {s : State} (hcode : s.commandCode = 10#4) :
    recordRow s = stringRow (get s.cmd[1] 4 3) := by
  simp [recordRow, hcode, stringAction]

/-- A STRING with action code a runs the row of that action (10.5). -/
theorem exec_string_of_ready {s : State} (h : Ready s 10#4) {i : Instr} (hi : isGoWrite i = true)
    {a : Nat} (ha : a < 2 ^ 3) (haction : (s.cmd[1]).extractLsb' 4 3 = BitVec.ofNat 3 a) :
    exec i s = .next (s.runRow (stringRow a)) := by
  refine exec_of_ready hi h fun hcode => ?_
  rw [recordRow_string hcode, (get_eq_iff ha).mpr haction]

theorem stringRow_of_bad {a : Nat} (h : 4 ≤ a) : stringRow a = .stringBadAction := by
  have h0 : a ≠ 0 := by omega
  have h1 : a ≠ 1 := by omega
  have h2 : a ≠ 2 := by omega
  have h3 : a ≠ 3 := by omega
  simp [stringRow, h0, h1, h2, h3]

theorem exec_string_of_bad {s : State} (h : Ready s 10#4) {i : Instr} (hi : isGoWrite i = true)
    (haction : 4 ≤ ((s.cmd[1]).extractLsb' 4 3).toNat) : exec i s = .next s.runStringBadAction := by
  refine exec_of_ready (r := .stringBadAction) hi h fun hcode => ?_
  rw [recordRow_string hcode]
  exact stringRow_of_bad haction

theorem setString_self (s : State) (n : StringNo) : s.setString n (s.string n) = s := by
  have hset : s.strings.set n.val (s.string n) n.isLt = s.strings := Vector.set_getElem_self n.isLt
  exact congrArg (fun strings => { s with strings := strings }) hset

/-- The view that a completion returns is that of the state it leaves. -/
theorem completeString_eq (s : State) (n : StringNo) (r : ResultCode) :
    s.completeString n r = s.complete 10#4 r ((s.completeString n r).stringView n) := rfl

/-! ### START, STOP and the wake hold -/

theorem runStart_of_off_or_faulted {s : State} {n : StringNo} (hn : recordString s = some n)
    (hs : (s.string n).state = .off ∨ (s.string n).state = .faulted) :
    s.runStart =
      (s.setString n
        { s.string n with
          state := .running, faults := 0, history := 0#24
          marks := Vector.replicate 24 0#8, cycle := none, clock := 0 }).completeString n .ok := by
  rcases hs with hs | hs <;> simp only [State.runStart, hn, StringEngine.start, hs] <;> rfl

theorem runStart_of_running_or_resting {s : State} {n : StringNo} (hn : recordString s = some n)
    (hs : (s.string n).state = .running ∨ (s.string n).state = .resting) :
    s.runStart = s.completeString n .badState := by
  rcases hs with hs | hs <;> simp only [State.runStart, hn, StringEngine.start, hs, setString_self]

theorem runStop_eq {s : State} {n : StringNo} (hn : recordString s = some n) :
    s.runStop = (s.setString n (s.string n).stop).completeString n .ok := by
  simp only [State.runStop, hn]

theorem stop_of_off {g : StringEngine} (hs : g.state = .off) : g.stop = g := by
  simp only [StringEngine.stop, hs]

theorem stop_of_cycle {g : StringEngine} (hs : g.state = .running) (hc : g.cycle ≠ none) :
    g.stop = { g with stopPending := true } := by
  obtain ⟨c, hc⟩ := Option.ne_none_iff_exists'.mp hc
  simp only [StringEngine.stop, hs, hc]

theorem stop_of_idle {g : StringEngine}
    (hs : g.state = .resting ∨ g.state = .faulted ∨ (g.state = .running ∧ g.cycle = none)) :
    g.stop = g.goOff := by
  rcases hs with hs | hs | ⟨hs, hc⟩
  · simp only [StringEngine.stop, hs]
  · simp only [StringEngine.stop, hs]
  · simp only [StringEngine.stop, hs, hc]

/-- Settles O40: each action by the state of the string. -/
theorem startStopAndWakeHoldActByState : Obligations.StartStopAndWakeHoldActByState := by
  intro s n
  refine ⟨fun hs => ?wakes, fun hs => ?sleeps, fun go h hnumber => ⟨fun haction => ?start,
    fun haction => ?stop⟩⟩
  case wakes =>
    simp only [exec, execWakeHold, hs]
    rfl
  case sleeps =>
    cases hstate : (s.string n).state with
    | resting => exact absurd hstate hs
    | _ => simp only [exec, execWakeHold, hstate]
  case start =>
    have hn := recordString_eq_some hnumber
    have hexec : exec (.start go) s = .next s.runStart := exec_string_of_ready h rfl (by decide) haction
    rw [hexec]
    refine ⟨fun hs => ⟨_, rfl, ?_⟩, fun hs => ?_⟩
    · rw [runStart_of_off_or_faulted hn hs]
      exact completeString_eq _ _ _
    · rw [runStart_of_running_or_resting hn hs]
      rfl
  case stop =>
    have hn := recordString_eq_some hnumber
    have hexec : exec (.stop go) s = .next s.runStop := exec_string_of_ready h rfl (by decide) haction
    rw [hexec, runStop_eq hn]
    refine ⟨fun hs => ?_, fun hs hc => ⟨_, rfl, ?_⟩, fun hs => ⟨_, rfl, ?_⟩⟩
    · rw [stop_of_off hs, setString_self]
      rfl
    · rw [stop_of_cycle hs hc]
      exact completeString_eq _ _ _
    · rw [stop_of_idle hs]
      exact completeString_eq _ _ _

/-! ### The view -/

theorem stringState_code (x : StringState) :
    BitVec.ofNat 2 x.code =
      (match x with
        | .off => 0#2 | .running => 1#2 | .resting => 2#2 | .faulted => 3#2) := by
  cases x <;> rfl

theorem stringState_code_lt (x : StringState) : x.code < 4 := by cases x <;> decide

theorem stringMode_code (x : StringMode) : x.code = flag (decide (x = .onDemand)) := by
  cases x <;> rfl

theorem pendingMode_code (o : Option StringMode) :
    (o.map StringMode.code).getD 0 = flag (decide (o = some .onDemand)) := by
  cases o with
  | none => rfl
  | some m => cases m <;> rfl

/-- RES1 of a STRING (R104). -/
def viewHead (g : StringEngine) : Word :=
  pack [(0, g.state.code), (4, g.mode.code), (5, flag g.pendingMode.isSome),
    (6, (g.pendingMode.map StringMode.code).getD 0), (7, flag g.stopPending), (8, g.faults.val),
    (16, g.rollCalls.length)]

theorem stringView_eq (s : State) (n : StringNo) :
    s.stringView n =
      [viewHead (s.string n), put 0 (s.string n).divisor.toNat, put 0 (s.string n).history.toNat] :=
  rfl

theorem viewHead_fields (g : StringEngine) :
    (viewHead g).extractLsb' 0 2 = BitVec.ofNat 2 g.state.code ∧
      (viewHead g).getLsbD 4 = decide (g.mode = .onDemand) ∧
      (viewHead g).getLsbD 5 = g.pendingMode.isSome ∧
      (viewHead g).getLsbD 6 = decide (g.pendingMode = some .onDemand) ∧
      (viewHead g).getLsbD 7 = g.stopPending ∧
      ((viewHead g).extractLsb' 8 2).toNat = g.faults.val ∧
      (viewHead g).extractLsb' 16 5 = BitVec.ofNat 5 g.rollCalls.length := by
  have hstate := stringState_code_lt g.state
  have hmode := flag_lt (decide (g.mode = .onDemand))
  have hsome := flag_lt g.pendingMode.isSome
  have hpending := flag_lt (decide (g.pendingMode = some .onDemand))
  have hstop := flag_lt g.stopPending
  have hfaults := g.faults.isLt
  rw [viewHead, stringMode_code, pendingMode_code]
  simp only [getLsbD_eq_extract _ 4, getLsbD_eq_extract _ 5, getLsbD_eq_extract _ 6,
    getLsbD_eq_extract _ 7]
  simp (disch := omega) only [extract_pack_cons, extract_pack_nil, extract_put_same,
    extract_put_above, extract_put_below, BitVec.zero_or, BitVec.or_zero]
  exact ⟨trivial, getLsbD_ofNat_flag _, getLsbD_ofNat_flag _, getLsbD_ofNat_flag _,
    getLsbD_ofNat_flag _, Nat.mod_eq_of_lt hfaults, trivial⟩

/-! ### MODE and DIVISOR -/

theorem runMode_eq {s : State} {n : StringNo} {m : StringMode} (hn : recordString s = some n)
    (hm : modeField s.cmd[2] = some m) :
    s.runMode = (s.setString n ((s.string n).setMode m)).completeString n .ok := by
  simp only [State.runMode, hn, hm]

theorem modeField_eq_none {w : Word} (h : 2 ≤ (w.extractLsb' 0 2).toNat) : modeField w = none := by
  rw [← get_eq] at h
  have h0 : get w 0 2 ≠ 0 := by omega
  have h1 : get w 0 2 ≠ 1 := by omega
  rw [modeField, if_neg h0, if_neg h1]

theorem modeField_eq_some {w : Word} {m : StringMode}
    (h : w.extractLsb' 0 2 = (match m with | .continuous => 0#2 | .onDemand => 1#2)) :
    modeField w = some m := by
  cases m with
  | continuous =>
    rw [modeField, if_pos ((get_eq_iff (by decide)).mpr h)]
  | onDemand =>
    have h1 : get w 0 2 = 1 := (get_eq_iff (by decide)).mpr h
    rw [modeField, h1, if_neg Nat.one_ne_zero, if_pos rfl]

theorem setMode_of_gap {g : StringEngine} {m : StringMode}
    (hs : g.state = .off ∨ g.state = .faulted ∨ (g.state = .running ∧ g.cycle = none)) :
    g.setMode m = { g with mode := m } := by
  rcases hs with hs | hs | ⟨hs, hc⟩
  · simp only [StringEngine.setMode, hs]
  · simp only [StringEngine.setMode, hs]
  · simp only [StringEngine.setMode, hs, hc]

theorem setMode_of_cycle {g : StringEngine} {m : StringMode} (hs : g.state = .running)
    (hc : g.cycle ≠ none) :
    g.setMode m =
      if m = g.mode ∧ g.pendingMode = none then g else { g with pendingMode := some m } := by
  obtain ⟨c, hc⟩ := Option.ne_none_iff_exists'.mp hc
  simp only [StringEngine.setMode, hs, hc]

theorem divisorField_eq_none {w : Word}
    (h : (w.extractLsb' 0 11).toNat < 4 ∨ 1023 < (w.extractLsb' 0 11).toNat) :
    divisorField w = none := by
  rw [← get_eq] at h
  rw [divisorField, Config.divisorMin, Config.divisorMax, if_neg (by omega)]

theorem divisorField_eq_some {w : Word} (hmin : 4 ≤ (w.extractLsb' 0 11).toNat)
    (hmax : (w.extractLsb' 0 11).toNat ≤ 1023) : divisorField w = some (w.extractLsb' 0 10) :=
  if_pos ⟨hmin, hmax⟩

theorem setDivisor_of_off {g : StringEngine} (hs : g.state = .off) (d : BitVec 10) :
    g.setDivisor d = ({ g with divisor := d }, .ok) := by
  simp only [StringEngine.setDivisor, hs]

theorem setDivisor_of_not_off {g : StringEngine} (hs : g.state ≠ .off) (d : BitVec 10) :
    g.setDivisor d = (g, .badState) := by
  cases hstate : g.state with
  | off => exact absurd hstate hs
  | _ => simp only [StringEngine.setDivisor, hstate]

/-- A STRING that names string 3 is refused, whatever its action (R104). -/
theorem exec_string_of_none {s : State} (h : Ready s 10#4) (hn : recordString s = none) {i : Instr}
    {go : Word}
    (hi : (i = .start go ∧ (s.cmd[1]).extractLsb' 4 3 = 0#3) ∨
      (i = .stop go ∧ (s.cmd[1]).extractLsb' 4 3 = 1#3) ∨
      (i = .mode go ∧ (s.cmd[1]).extractLsb' 4 3 = 2#3) ∨
      (i = .divisor go ∧ (s.cmd[1]).extractLsb' 4 3 = 3#3) ∨
      (i = .stringBadAction go ∧ 4 ≤ ((s.cmd[1]).extractLsb' 4 3).toNat)) :
    exec i s = .next (s.complete 10#4 .badField []) := by
  have hstart : s.runRow .start = s.complete 10#4 .badField [] := by
    simp only [State.runRow, State.runStart, hn]
  have hstop : s.runRow .stop = s.complete 10#4 .badField [] := by
    simp only [State.runRow, State.runStop, hn]
  have hmode : s.runRow .mode = s.complete 10#4 .badField [] := by
    simp only [State.runRow, State.runMode, hn]
  have hdivisor : s.runRow .divisor = s.complete 10#4 .badField [] := by
    simp only [State.runRow, State.runDivisor, hn]
  rcases hi with ⟨rfl, ha⟩ | ⟨rfl, ha⟩ | ⟨rfl, ha⟩ | ⟨rfl, ha⟩ | ⟨rfl, ha⟩
  · exact (exec_string_of_ready h rfl (by decide) ha).trans (congrArg _ hstart)
  · exact (exec_string_of_ready h rfl (by decide) ha).trans (congrArg _ hstop)
  · exact (exec_string_of_ready h rfl (by decide) ha).trans (congrArg _ hmode)
  · exact (exec_string_of_ready h rfl (by decide) ha).trans (congrArg _ hdivisor)
  · rw [exec_string_of_bad h rfl ha]
    simp only [State.runStringBadAction, hn]

/-- Settles O41: the view's words, and the four actions with their checks. -/
theorem modeDivisorAndStringRefusals : Obligations.ModeDivisorAndStringRefusals := by
  refine ⟨fun s n => ?view, fun s go h => ⟨fun hnone i hi => ?refused, fun n hnumber => ?_⟩⟩
  case view =>
    obtain ⟨hstate, hmode, hsome, hpending, hstop, hfaults, hlength⟩ := viewHead_fields (s.string n)
    refine ⟨_, _, _, stringView_eq s n, hstate.trans (stringState_code _), hmode, hsome, hpending,
      hstop, hfaults, fun hle => ?_, ?_, ?_⟩
    · rw [hlength, BitVec.toNat_ofNat, Nat.mod_eq_of_lt (by omega)]
    · have hd := (s.string n).divisor.isLt
      rw [toNat_put (by omega)]
      omega
    · have hh := (s.string n).history.isLt
      rw [toNat_put (by omega)]
      omega
  case refused => exact exec_string_of_none h (recordString_eq_none.mpr hnone) hi
  have hn := recordString_eq_some hnumber
  refine ⟨fun hbad => ?badAction, fun haction => ⟨fun hbad => ?badMode, fun m hm => ?mode⟩,
    fun haction => ⟨fun hbad => ?badDivisor, fun hmin hmax => ⟨fun hs => ?running, fun hs => ?off⟩⟩⟩
  case badAction =>
    rw [exec_string_of_bad h rfl hbad]
    simp only [State.runStringBadAction, hn]
    rfl
  case badMode =>
    have hexec : exec (.mode go) s = .next s.runMode := exec_string_of_ready h rfl (by decide) haction
    rw [hexec]
    simp only [State.runMode, hn, modeField_eq_none hbad]
    rfl
  case mode =>
    have hexec : exec (.mode go) s = .next s.runMode := exec_string_of_ready h rfl (by decide) haction
    rw [hexec, runMode_eq hn (modeField_eq_some hm)]
    refine ⟨_, (s.string n).setMode m, rfl, completeString_eq _ _ _, setMode_of_gap,
      fun hs hm => ?_, fun hs hm => ?_, fun hs hc hsame hnone => ?_, fun hs hc hnew => ?_⟩
    · simp only [StringEngine.setMode, hs, hm]
    · simp only [StringEngine.setMode, hs, hm]
      rfl
    · rw [setMode_of_cycle hs hc, if_pos ⟨hsame, hnone⟩]
    · rw [setMode_of_cycle hs hc, if_neg (by tauto)]
  case badDivisor =>
    have hexec : exec (.divisor go) s = .next s.runDivisor :=
      exec_string_of_ready h rfl (by decide) haction
    rw [hexec]
    simp only [State.runDivisor, hn, divisorField_eq_none hbad]
    rfl
  case running =>
    have hexec : exec (.divisor go) s = .next s.runDivisor :=
      exec_string_of_ready h rfl (by decide) haction
    rw [hexec]
    simp only [State.runDivisor, hn, divisorField_eq_some hmin hmax, setDivisor_of_not_off hs,
      setString_self]
    rfl
  case off =>
    have hexec : exec (.divisor go) s = .next s.runDivisor :=
      exec_string_of_ready h rfl (by decide) haction
    rw [hexec]
    simp only [State.runDivisor, hn, divisorField_eq_some hmin hmax, setDivisor_of_off hs]
    exact ⟨_, rfl, completeString_eq _ _ _⟩

end Sys2Proof.Claims
end

section
/-! PROOFS. LIMIT (O42), CONDITION (O43) and RESET DIRECTORY (O44). -/

namespace Sys2Proof.Claims

open Sys2Proof.Machine Sys2Proof.Machine.Bits

/-! ### LIMIT -/

theorem limitRowOf_eq_none {k : LimitClass} : limitRowOf k = none ↔ k.val = 0 := by
  unfold limitRowOf
  split <;> simp [*]

theorem limitRowOf_eq_some {k : LimitClass} {r : Fin 7} (h : limitRowOf k = some r) :
    k.val = r.val + 1 := by
  unfold limitRowOf at h
  split at h
  · cases h
  · cases h
    have := k.isLt
    dsimp only
    omega

theorem policyField_eq_none {w : Word} : policyField w = none ↔ 2 ≤ (w.extractLsb' 16 2).toNat := by
  rw [← get_eq]
  unfold policyField
  split
  · simp only [reduceCtorEq, false_iff]
    omega
  · split
    · simp only [reduceCtorEq, false_iff]
      omega
    · simp only [true_iff]
      omega

/-- The policy is bit 16 where it is in range (10.5). -/
theorem policyField_eq_some {w : Word} {p : Policy} (h : policyField w = some p) :
    p = if w.getLsbD 16 then .reclaim else .note := by
  have hbit : w.getLsbD 16 = (w.extractLsb' 16 2).getLsbD 0 := by simp
  unfold policyField at h
  split at h
  · cases h
    rw [hbit, (get_eq_iff (by decide)).mp ‹get w 16 2 = 0›]
    rfl
  · split at h
    · cases h
      rw [hbit, (get_eq_iff (by decide)).mp ‹get w 16 2 = 1›]
      rfl
    · cases h

/-- The row part of a LIMIT is refused (R78). -/
def RowOutOfRange (s : State) : Prop :=
  (s.cmd[1]).getLsbD 8 = true ∧
    ((s.cmd[1]).extractLsb' 0 3 = 0#3 ∨ (s.cmd[2]).extractLsb' 0 16 = 0#16 ∨
      2 ≤ ((s.cmd[2]).extractLsb' 16 2).toNat)

/-- The prescaler part of a LIMIT is refused (R78). -/
def PrescalerOutOfRange (s : State) : Prop :=
  (s.cmd[1]).getLsbD 9 = true ∧ ((s.cmd[3]).extractLsb' 0 16).toNat < 16

theorem limitOutOfRange_iff {s : State} :
    LimitOutOfRange s ↔ RowOutOfRange s ∨ PrescalerOutOfRange s := Iff.rfl

theorem rowClass_val (s : State) : (Fin.ofNat 8 (get s.cmd[1] 0 3)).val = get s.cmd[1] 0 3 :=
  (Fin.val_ofNat ..).trans (Nat.mod_eq_of_lt (get_lt s.cmd[1] 0 3))

theorem limitRowField_eq_none {s : State} : limitRowField s = none ↔ RowOutOfRange s := by
  have hrow : get s.cmd[1] 0 3 = 0 ↔ limitRowOf (Fin.ofNat 8 (get s.cmd[1] 0 3)) = none := by
    rw [limitRowOf_eq_none, rowClass_val]
  unfold limitRowField RowOutOfRange
  rw [bit_eq, ← get_eq_iff (n := 0) (by decide), ← get_eq_iff (lo := 0) (len := 16) (n := 0) (by decide),
    ← policyField_eq_none, hrow]
  cases (s.cmd[1]).getLsbD 8 with
  | false => simp
  | true =>
    rw [if_pos rfl]
    split
    · rename_i r p hr hp
      simp only [hr, hp, reduceCtorEq, true_and, false_or, or_false, ite_eq_left_iff, imp_false,
        not_not]
    · simp only [*, true_and, or_true]
    · simp only [*, true_and, true_or]

/-- The row that an accepted LIMIT names, if its bit names one. -/
theorem limitRowField_eq_some {s : State} {o : Option (Fin 7 × LimitRow)}
    (h : limitRowField s = some o) :
    (o = none ∧ (s.cmd[1]).getLsbD 8 = false) ∨
      ∃ r, o = some (r, { duration := (s.cmd[2]).extractLsb' 0 16
                          policy := if (s.cmd[2]).getLsbD 16 then .reclaim else .note }) ∧
        (s.cmd[1]).getLsbD 8 = true ∧ ((s.cmd[1]).extractLsb' 0 3).toNat = r.val + 1 := by
  unfold limitRowField at h
  rw [bit_eq] at h
  cases hbit : (s.cmd[1]).getLsbD 8 with
  | false =>
    rw [hbit, if_neg Bool.false_ne_true] at h
    cases h
    exact .inl ⟨rfl, rfl⟩
  | true =>
    rw [hbit, if_pos rfl] at h
    split at h
    · rename_i r p hr hp
      split at h
      · cases h
      · cases h
        rw [policyField_eq_some hp]
        exact .inr ⟨r, rfl, rfl, (rowClass_val s).symm.trans (limitRowOf_eq_some hr)⟩
    · cases h
    · cases h

theorem prescalerField_eq_none {s : State} : prescalerField s = none ↔ PrescalerOutOfRange s := by
  unfold prescalerField PrescalerOutOfRange Config.prescalerMin
  rw [bit_eq, ← get_eq]
  cases (s.cmd[1]).getLsbD 9 <;> simp

theorem prescalerField_eq_some {s : State} {o : Option (BitVec 16)} (h : prescalerField s = some o) :
    (o = none ∧ (s.cmd[1]).getLsbD 9 = false) ∨
      (o = some ((s.cmd[3]).extractLsb' 0 16) ∧ (s.cmd[1]).getLsbD 9 = true) := by
  unfold prescalerField at h
  rw [bit_eq] at h
  cases hbit : (s.cmd[1]).getLsbD 9 with
  | false =>
    rw [hbit, if_neg Bool.false_ne_true] at h
    cases h
    exact .inl ⟨rfl, rfl⟩
  | true =>
    rw [hbit, if_pos rfl] at h
    split at h
    · cases h
    · cases h
      exact .inr ⟨rfl, rfl⟩

theorem exec_limit_of_ready {s : State} (h : Ready s 11#4) (go : Word) :
    exec (.limit go) s = .next s.runLimit :=
  exec_of_ready (r := .limit) rfl h fun hcode => by simp [recordRow, hcode]

theorem length_limitWords (s : State) : s.limitWords.length = 8 := by
  simp [State.limitWords]

theorem limitRowWord_eq (row : LimitRow) :
    pack [(0, row.duration.toNat), (16, row.policy.code)] =
      BitVec.ofNat 32
        (row.duration.toNat + (match row.policy with | .note => 0 | .reclaim => 65536)) := by
  have hd := row.duration.isLt
  cases row.policy with
  | note =>
    rw [pack_eq_ofNat (by norm_num [Spaced, lowest, Policy.code]; omega)]
    norm_num [total, Policy.code]
  | reclaim =>
    rw [pack_eq_ofNat (by norm_num [Spaced, lowest, Policy.code]; omega)]
    norm_num [total, Policy.code]

theorem limitWords_row (s : State) (r : Fin 7) :
    s.limitWords[r.val]? =
      some
        (BitVec.ofNat 32
          ((s.limits[r]).duration.toNat +
            (match (s.limits[r]).policy with | .note => 0 | .reclaim => 65536))) := by
  rw [← limitRowWord_eq, State.limitWords, List.getElem?_append_left (by simp), List.getElem?_map]
  simp

theorem limitWords_prescaler (s : State) :
    s.limitWords[7]? = some (BitVec.ofNat 32 s.prescaler.toNat) := by
  rw [State.limitWords, List.getElem?_append_right (by simp), put_zero]
  simp

theorem limits_setLimitRow (s : State) (r r' : Fin 7) (row : LimitRow) :
    (s.setLimitRow (some (r, row))).limits[r'] = if r' = r then row else s.limits[r'] := by
  simp only [State.setLimitRow, Fin.getElem_fin, Vector.getElem_set, Fin.ext_iff, eq_comm]

/-- Settles O42: the two parts of a LIMIT, each checked before either is taken. -/
theorem limitIsCheckedAsAWhole : Obligations.LimitIsCheckedAsAWhole := by
  intro s go h
  rw [exec_limit_of_ready h, limitOutOfRange_iff, ← limitRowField_eq_none,
    ← prescalerField_eq_none]
  refine ⟨fun hbad => ?refused, fun hgood => ?accepted⟩
  case refused =>
    cases hr : limitRowField s with
    | none => simp only [State.runLimit, hr]
    | some r =>
      have hp := hbad.resolve_left (by rw [hr]; exact Option.some_ne_none r)
      simp only [State.runLimit, hr, hp]
  case accepted =>
    obtain ⟨hrow, hprescaler⟩ := not_or.mp hgood
    obtain ⟨r, hr⟩ := Option.ne_none_iff_exists'.mp hrow
    obtain ⟨p, hp⟩ := Option.ne_none_iff_exists'.mp hprescaler
    have hrun : s.runLimit = ((s.setLimitRow r).setPrescaler p).complete 11#4 .ok
        ((s.setLimitRow r).setPrescaler p).limitWords := by
      simp only [State.runLimit, hr, hp]
    have hlimits : ∀ r' : Fin 7, ((s.setLimitRow r).setPrescaler p).limits[r'] =
        (s.setLimitRow r).limits[r'] := by
      cases p <;> exact fun _ => rfl
    rw [hrun]
    refine ⟨_, _, rfl, ?_, fun r' => ?_, fun hbit => ?_, fun hbit => ?_, length_limitWords _,
      limitWords_row _, limitWords_prescaler _⟩
    · have hframe : (s.setLimitRow r).setPrescaler p =
          { s with
            limits := ((s.setLimitRow r).setPrescaler p).limits
            prescaler := ((s.setLimitRow r).setPrescaler p).prescaler
            prescaleCount := ((s.setLimitRow r).setPrescaler p).prescaleCount } := by
        cases r <;> cases p <;> rfl
      rw [hframe]
      rfl
    · rw [State.limits_complete, hlimits]
      rcases limitRowField_eq_some hr with ⟨rfl, hoff⟩ | ⟨x, rfl, hon, hx⟩
      · simp only [hoff, Bool.false_eq_true, false_and, if_false, State.setLimitRow]
      · rw [limits_setLimitRow]
        simp only [hon, hx, true_and, Nat.add_right_cancel_iff, Fin.ext_iff, eq_comm]
    · rw [State.prescaler_complete, State.prescaleCount_complete]
      rcases prescalerField_eq_some hp with ⟨rfl, hoff⟩ | ⟨rfl, hon⟩
      · rw [hoff] at hbit
        cases hbit
      · exact ⟨rfl, rfl⟩
    · rw [State.prescaler_complete, State.prescaleCount_complete]
      rcases prescalerField_eq_some hp with ⟨rfl, hoff⟩ | ⟨rfl, hon⟩
      · cases r <;> exact ⟨rfl, rfl⟩
      · rw [hon] at hbit
        cases hbit

/-! ### RESET DIRECTORY -/

theorem entries_toList (s : State) : s.entries.toList = (List.finRange 96).map s.entry := by
  refine List.ext_getElem (by simp) fun i h h' => ?_
  simp [State.entry]

theorem countP_entries (s : State) (p : Option Entry → Bool) :
    s.entries.toList.countP p = (List.finRange 96).countP fun e => p (s.entry e) := by
  rw [entries_toList, List.countP_map]
  rfl

theorem nextToFree_eq_some {s : State} {e : EntryNo} {b : Entry} (hb : s.entry e = some b)
    (hbelow : ∀ e', e' < e → s.entry e' = none) : s.nextToFree = some e :=
  find?_allEntries_eq_some.mpr ⟨by rw [hb]; rfl, fun e' hlt => by rw [hbelow e' hlt]; rfl⟩

theorem string_cleared (s : State) (n : StringNo) :
    s.clearedLists.string n = (s.string n).cleared := by
  fin_cases n <;> rfl

/-- Settles O44: the start, one freeing, and the completion. -/
theorem resetDirectoryFreesEveryEntry : Obligations.ResetDirectoryFreesEveryEntry := by
  refine ⟨fun s go h => ?start, fun s bound e b hslot hb hbelow => ?free,
    fun s bound hslot hfree => ?complete⟩
  case start =>
    have hexec : exec (.resetDirectory go) s = .next s.runResetDirectory :=
      exec_of_ready (r := .resetDirectory) rfl h fun hcode => by simp [recordRow, hcode]
    have hclearing : s.runResetDirectory.clearing = true := rfl
    refine ⟨s.runResetDirectory, hexec, ?_, hclearing, fun t => ?_⟩
    · rw [State.runResetDirectory, State.boundCount, countP_entries]
    · rw [State.tkalert, claimAnswer_of_clearing hclearing]
  case free =>
    refine ⟨s.free e, ?_, s.free_frame e, s.free_entry e, fun e' hne => s.free_other e e' hne.symm,
      State.queue_free hb, State.stack_free hb⟩
    simp only [exec, execClearingFree, hslot, nextToFree_eq_some hb hbelow]
  case complete =>
    have hexec : exec .resetDirectoryCompletion s =
        .next (s.clearedLists.complete 13#4 .ok [BitVec.ofNat 32 bound]) := by
      simp only [exec, execResetDirectoryCompletion, hslot, nextToFree_eq_none.mpr hfree, put_zero]
    refine ⟨_, hexec, rfl, fun k => ?_, fun t => ?_, fun t => ?_, string_cleared s⟩
    · rw [State.queue_complete]
      simp [State.clearedLists, State.queue]
    · rw [State.stack_complete]
      simp [State.clearedLists, State.stack]
    · rw [State.withdrawnOf_complete]
      simp [State.clearedLists, State.withdrawnOf]

end Sys2Proof.Claims
end

section
/-! PROOFS. CONDITION (O43). -/

namespace Sys2Proof.Machine.Bits

/-! ### Words put together of two lists of fields -/

theorem pack_append (fs gs : List (Nat × Nat)) : pack (fs ++ gs) = pack fs ||| pack gs := by
  induction fs with
  | nil => exact BitVec.zero_or.symm
  | cons f fs ih => rw [List.cons_append, pack, pack, ih, BitVec.or_assoc]

theorem extract_pack_eq_zero {fs : List (Nat × Nat)} {start len : Nat}
    (h : ∀ f ∈ fs, (put f.1 f.2).extractLsb' start len = 0#len) :
    (pack fs).extractLsb' start len = 0#len := by
  induction fs with
  | nil => exact extract_pack_nil start len
  | cons f fs ih =>
    rw [extract_pack_cons, h f List.mem_cons_self, ih fun x hx => h x (List.mem_cons_of_mem f hx),
      BitVec.or_zero]

/-- A field above all of a word reads as 0. -/
theorem extract_eq_zero_of_lt {w : Word} {start : Nat} (h : w.toNat < 2 ^ start) (len : Nat) :
    w.extractLsb' start len = 0#len := by
  apply BitVec.eq_of_toNat_eq
  rw [BitVec.extractLsb'_toNat, Nat.shiftRight_eq_div_pow, Nat.div_eq_of_lt h]
  simp

end Sys2Proof.Machine.Bits

namespace Sys2Proof.Claims

open Sys2Proof.Machine Sys2Proof.Machine.Bits

/-! ### The record -/

theorem rowSetField_eq_none {w : Word} : rowSetField w = none ↔ w.extractLsb' 9 7 ≠ 0#7 := by
  rw [ne_eq, ← get_eq_iff (n := 0) (by decide)]
  unfold rowSetField
  split <;> simp [*]

theorem rowSetField_eq_some {w : Word} {m : BitVec 9} (h : rowSetField w = some m) {k : Nat}
    (hk : k < 9) : m.getLsbD k = w.getLsbD k := by
  unfold rowSetField at h
  split at h
  · cases h
    simp [hk]
  · cases h

theorem enableField_eq_none {w : Word} :
    enableField w = none ↔ 2 ≤ (w.extractLsb' 16 2).toNat ∨
      (w.extractLsb' 16 2 = 1#2 ∧ w.extractLsb' 9 7 ≠ 0#7) := by
  rw [← get_eq_iff (n := 1) (by decide), ← get_eq, ← rowSetField_eq_none]
  unfold enableField
  split
  · simp only [reduceCtorEq, false_iff]
    omega
  · split
    · rename_i h1
      simp only [h1, Nat.reduceLeDiff, Option.map_eq_none_iff, true_and, false_or]
    · simp only [true_iff]
      omega

/-- The enable set is named by mode 1 alone (10.5). -/
theorem enableField_eq_some {w : Word} {o : Option (BitVec 9)} (h : enableField w = some o) :
    (o = none ∧ w.extractLsb' 16 2 ≠ 1#2) ∨
      (w.extractLsb' 16 2 = 1#2 ∧ ∃ m, o = some m ∧ rowSetField w = some m) := by
  have hmode : w.extractLsb' 16 2 = 1#2 ↔ get w 16 2 = 1 := (get_eq_iff (by decide)).symm
  rw [ne_eq, hmode]
  unfold enableField at h
  split at h
  · cases h
    exact .inl ⟨rfl, by omega⟩
  · split at h
    · obtain ⟨m, hm, rfl⟩ := Option.map_eq_some_iff.mp h
      exact .inr ⟨‹_›, m, rfl, hm⟩
    · cases h

theorem conditionRecord_eq_none {s : State} : conditionRecord s = none ↔ ConditionOutOfRange s := by
  rw [ConditionOutOfRange, ← rowSetField_eq_none, ← rowSetField_eq_none, ← enableField_eq_none]
  unfold conditionRecord
  split <;> simp [*]

theorem conditionRecord_eq_some {s : State} {f : ConditionRecord} (h : conditionRecord s = some f) :
    rowSetField s.cmd[1] = some f.read ∧ rowSetField s.cmd[2] = some f.acknowledge ∧
      enableField s.cmd[3] = some f.enables := by
  unfold conditionRecord at h
  split at h
  · cases h
    exact ⟨‹_›, ‹_›, ‹_›⟩
  all_goals cases h

/-! ### The rows after it -/

theorem cond_applyCondition (s : State) (f : ConditionRecord) (r : CondRow) :
    (s.applyCondition f).cond r = f.applyRow r.ix (s.cond r) := by
  simp [State.applyCondition, State.cond]

theorem applyRow_latched (f : ConditionRecord) (k : Fin 9) (c : Condition) :
    (f.applyRow k c).latched = if f.acknowledge.getLsbD k.val then false else c.latched := by
  unfold ConditionRecord.applyRow
  dsimp only
  split <;> cases f.acknowledge.getLsbD k.val <;> rfl

theorem applyRow_count (f : ConditionRecord) (k : Fin 9) (c : Condition) :
    (f.applyRow k c).count = if f.acknowledge.getLsbD k.val then 0#8 else c.count := by
  unfold ConditionRecord.applyRow
  dsimp only
  split <;> cases f.acknowledge.getLsbD k.val <;> rfl

theorem applyRow_culprit (f : ConditionRecord) (k : Fin 9) (c : Condition) :
    (f.applyRow k c).culprit = if f.acknowledge.getLsbD k.val then none else c.culprit := by
  unfold ConditionRecord.applyRow
  dsimp only
  split <;> cases f.acknowledge.getLsbD k.val <;> rfl

theorem applyRow_enabled (f : ConditionRecord) (k : Fin 9) (c : Condition) :
    (f.applyRow k c).enabled = (f.enables.map fun n => n.getLsbD k.val).getD c.enabled := by
  unfold ConditionRecord.applyRow
  dsimp only
  cases f.enables <;> cases f.acknowledge.getLsbD k.val <;> rfl

/-! ### The words of the result -/

/-- The flags of a CONDITION's first word: latched in 8:0, enables in 24:16 (10.6). -/
theorem flagsWord_bits (s : State) (k : Fin 9) :
    s.flagsWord.getLsbD k.val = (s.conditions[k]).latched ∧
      s.flagsWord.getLsbD (16 + k.val) = (s.conditions[k]).enabled := by
  have hk := k.isLt
  have hlow := extract_pack_map (w := 1) 0 (fun j : Fin 9 => flag (s.conditions[j]).latched)
    (fun j => flag_lt _) (by decide) [] k nofun
  have hhigh := extract_pack_map (w := 1) 16 (fun j : Fin 9 => flag (s.conditions[j]).enabled)
    (fun j => flag_lt _) (by decide) [] k nofun
  simp only [Nat.zero_add, Nat.one_mul, List.append_nil] at hlow hhigh
  have hbelow : (pack ((List.finRange 9).map fun j => (16 + j.val, flag (s.conditions[j]).enabled))).extractLsb'
      k.val 1 = 0#1 := by
    refine extract_pack_eq_zero fun f hf => ?_
    obtain ⟨j, -, rfl⟩ := List.mem_map.mp hf
    exact extract_put_below (by dsimp only; omega)
  have habove : (pack ((List.finRange 9).map fun j => (j.val, flag (s.conditions[j]).latched))).extractLsb'
      (16 + k.val) 1 = 0#1 := by
    refine extract_pack_eq_zero fun f hf => ?_
    obtain ⟨j, -, rfl⟩ := List.mem_map.mp hf
    have hj := j.isLt
    exact extract_put_above (by dsimp only; omega)
      ((flag_lt _).trans_le (Nat.le_self_pow (by dsimp only; omega) 2))
  rw [State.flagsWord, pack_append, getLsbD_eq_extract _ k.val, getLsbD_eq_extract _ (16 + k.val),
    BitVec.extractLsb'_or, BitVec.extractLsb'_or, hlow, hhigh, hbelow, habove, BitVec.or_zero,
    BitVec.zero_or]
  exact ⟨getLsbD_ofNat_flag _, getLsbD_ofNat_flag _⟩

theorem toNat_put_zero {v : Nat} (h : v < 2 ^ 16) : (put 0 v).toNat < 2 ^ 16 := by
  rw [toNat_put (by omega)]
  omega

/-- A culprit's kind takes four bits and its value sixteen (10.8). -/
theorem kindValue_lt (w : Culprit) : w.kindValue.1 < 16 ∧ w.kindValue.2.toNat < 2 ^ 16 := by
  refine ⟨by cases w <;> simp [Culprit.kindValue], ?_⟩
  cases w with
  | entry e => exact toNat_put_zero (e.isLt.trans (by decide))
  | slot n k =>
    have hn := n.isLt
    have hk := k.isLt
    rw [Culprit.kindValue, toNat_pack (by norm_num [Spaced, lowest]; omega)]
    norm_num [total]
    omega
  | mark n k m =>
    have hn := n.isLt
    have hk := k.isLt
    have hm := m.isLt
    rw [Culprit.kindValue, toNat_pack (by norm_num [Spaced, lowest]; omega)]
    norm_num [total]
    omega
  | channel c => exact toNat_put_zero (c.isLt.trans (by decide))
  | taker t => exact toNat_put_zero (t.isLt.trans (by decide))
  | takerChannel t c =>
    have ht := t.isLt
    have hc := c.isLt
    rw [Culprit.kindValue, toNat_pack (by norm_num [Spaced, lowest]; omega)]
    norm_num [total]
    omega
  | command c => exact toNat_put_zero (c.isLt.trans (by decide))
  | string n => exact toNat_put_zero (n.isLt.trans (by decide))

/-- A condition row's word: its fields, the culprit's kind, and the culprit's value below (10.8). -/
theorem word_eq (c : Condition) :
    c.word =
      pack [(31, 1), (30, flag c.latched), (29, flag c.enabled), (16, c.count.toNat)] |||
        (put 25 ((c.culprit.map (·.kindValue.1)).getD 0) |||
          (c.culprit.map (·.kindValue.2)).getD 0#32) := by
  cases hc : c.culprit with
  | none =>
    have hzero : put 25 0 ||| 0#32 = 0#32 := rfl
    simp only [Condition.word, hc, Option.map_none, Option.getD_none, hzero]
  | some w => simp only [Condition.word, hc, Option.map_some, Option.getD_some]

theorem word_fields (c : Condition) :
    c.word.getLsbD 31 = true ∧ c.word.getLsbD 30 = c.latched ∧ c.word.getLsbD 29 = c.enabled ∧
      c.word.extractLsb' 16 8 = c.count ∧
      (c.word.extractLsb' 25 4).toNat = (c.culprit.map (·.kindValue.1)).getD 0 ∧
      c.word.extractLsb' 0 16 = ((c.culprit.map (·.kindValue.2)).getD 0#32).extractLsb' 0 16 := by
  have hlatched := flag_lt c.latched
  have henabled := flag_lt c.enabled
  have hcount := c.count.isLt
  have hculprit : (c.culprit.map (·.kindValue.1)).getD 0 < 16 ∧
      ((c.culprit.map (·.kindValue.2)).getD 0#32).toNat < 2 ^ 16 := by
    cases c.culprit with
    | none => exact ⟨by decide, by decide⟩
    | some w => exact kindValue_lt w
  obtain ⟨hkind, hvalue⟩ := hculprit
  have hzero : ∀ start len, 16 ≤ start →
      ((c.culprit.map (·.kindValue.2)).getD 0#32).extractLsb' start len = 0#len :=
    fun start len h =>
      extract_eq_zero_of_lt (hvalue.trans_le (Nat.pow_le_pow_right (by decide) h)) len
  rw [word_eq, getLsbD_eq_extract _ 31, getLsbD_eq_extract _ 30, getLsbD_eq_extract _ 29]
  simp (disch := omega) only [BitVec.extractLsb'_or, extract_pack_cons, extract_pack_nil,
    extract_put_same, extract_put_above, extract_put_below, hzero, BitVec.zero_or, BitVec.or_zero]
  exact ⟨by decide, getLsbD_ofNat_flag _, getLsbD_ofNat_flag _, by simp, Nat.mod_eq_of_lt hkind,
    trivial⟩

theorem rowWords_row (s : State) (f : ConditionRecord) (k : Fin 9) :
    (s.rowWords f)[k.val]? =
      some (if f.read.getLsbD k.val then (s.conditions[k]).word else 0#32) := by
  rw [State.rowWords, List.getElem?_map, List.getElem?_eq_getElem (by simp)]
  simp

theorem exec_condition_of_ready {s : State} (h : Ready s 12#4) (go : Word) :
    exec (.condition go) s = .next s.runCondition :=
  exec_of_ready (r := .condition) rfl h fun hcode => by simp [recordRow, hcode]

/-- Settles O43: each row read, then acknowledged, then enabled. -/
theorem conditionReadsThenClearsThenEnables : Obligations.ConditionReadsThenClearsThenEnables := by
  intro s go h
  rw [exec_condition_of_ready h, ← conditionRecord_eq_none]
  refine ⟨fun hbad => ?refused, fun hgood => ?accepted⟩
  case refused => simp only [State.runCondition, hbad]
  obtain ⟨f, hf⟩ := Option.ne_none_iff_exists'.mp hgood
  obtain ⟨hread, hack, henable⟩ := conditionRecord_eq_some hf
  have hrun : s.runCondition = (s.applyCondition f).complete 12#4 .ok
      ((s.applyCondition f).flagsWord :: s.rowWords f) := by
    simp only [State.runCondition, hf]
  rw [hrun]
  refine ⟨_, _, _, rfl, rfl, fun r => ?_, by simp [State.rowWords]⟩
  have hr := r.ix.isLt
  have hbit := rowSetField_eq_some hack hr
  obtain ⟨hlatched, henabled⟩ := flagsWord_bits (s.applyCondition f) r.ix
  rw [State.cond_complete, cond_applyCondition]
  refine ⟨?latched, ?count, ?culprit, ?enabled, ?flag, ?alert, _, rowWords_row s f r.ix,
    fun hout => ?unread, fun hin => ?read⟩
  case latched => rw [applyRow_latched, hbit]
  case count => rw [applyRow_count, hbit]
  case culprit => rw [applyRow_culprit, hbit]
  case enabled =>
    rw [applyRow_enabled]
    rcases enableField_eq_some henable with ⟨hkeep, hmode⟩ | ⟨hmode, m, hset, hm⟩
    · rw [hkeep, if_neg hmode]
      rfl
    · rw [hset, if_pos hmode, ← rowSetField_eq_some hm hr]
      rfl
  case flag =>
    rw [hlatched]
    exact congrArg Condition.latched (cond_applyCondition s f r)
  case alert =>
    rw [henabled]
    exact congrArg Condition.enabled (cond_applyCondition s f r)
  case unread => rw [rowSetField_eq_some hread hr, hout, if_neg Bool.false_ne_true]
  case read =>
    rw [rowSetField_eq_some hread hr, hin, if_pos rfl]
    exact word_fields (s.cond r)

end Sys2Proof.Claims
end

section
/-! PROOFS. What follows a cycle (O45), the choice of the next one (O46), the tick (O52) and the two expiries
(O53, O54). -/

namespace Sys2Proof.Claims

open Sys2Proof.Machine

/-! ### What follows a cycle -/

/-- The engine as its cycle ends, with the pending mode in force (R98). -/
def endedCycle (g : StringEngine) : StringEngine :=
  { g with mode := g.pendingMode.getD g.mode, pendingMode := none, cycle := none }

section AfterCycle

variable {g : StringEngine} {quiet : Bool} {len : Nat}

theorem afterCycle_of_stop (h : g.stopPending = true) :
    g.afterCycle quiet len = (endedCycle g).goOff := by
  simp only [StringEngine.afterCycle, h, if_true]
  rfl

theorem afterCycle_of_third_fault (h : g.stopPending = false) (hf : g.faults = 3) :
    g.afterCycle quiet len = (endedCycle g).goFaulted := by
  unfold StringEngine.afterCycle
  dsimp only
  rw [if_neg (by rw [h]; exact Bool.false_ne_true), if_pos hf]
  rfl

theorem afterCycle_of_rest (h : g.stopPending = false) (hf : g.faults ≠ 3)
    (hrest : g.pendingMode.getD g.mode = .onDemand ∧ quiet = true ∧ g.rollCalls = []) :
    g.afterCycle quiet len = (endedCycle g).goResting := by
  unfold StringEngine.afterCycle
  dsimp only
  rw [if_neg (by rw [h]; exact Bool.false_ne_true), if_neg hf, if_pos hrest]
  rfl

theorem afterCycle_of_gap (h : g.stopPending = false) (hf : g.faults ≠ 3)
    (hrest : ¬ (g.pendingMode.getD g.mode = .onDemand ∧ quiet = true ∧ g.rollCalls = [])) :
    g.afterCycle quiet len = { endedCycle g with clock := g.clock - len * g.bitPeriods } := by
  unfold StringEngine.afterCycle
  dsimp only
  rw [if_neg (by rw [h]; exact Bool.false_ne_true), if_neg hf, if_neg hrest]
  rfl

end AfterCycle

/-- Settles O45: the four rows of R98 in their order. -/
theorem endEventDecidesWhatFollows : Obligations.EndEventDecidesWhatFollows := by
  intro g quiet len
  cases hstop : g.stopPending with
  | true =>
    rw [afterCycle_of_stop hstop]
    exact ⟨rfl, rfl, rfl, rfl, rfl, fun _ => ⟨rfl, rfl, rfl, rfl, rfl, rfl⟩, nofun⟩
  | false =>
    by_cases hf : g.faults = 3
    · rw [afterCycle_of_third_fault hstop hf]
      exact ⟨rfl, rfl, rfl, rfl, rfl, nofun, fun _ => ⟨hstop, rfl, rfl, fun _ => ⟨rfl, rfl, rfl⟩,
        fun h => absurd hf h, fun h => absurd hf h, fun h => absurd hf h⟩⟩
    · by_cases hrest : g.pendingMode.getD g.mode = .onDemand ∧ quiet = true ∧ g.rollCalls = []
      · rw [afterCycle_of_rest hstop hf hrest]
        obtain ⟨hmode, hquiet, hqueue⟩ := hrest
        refine ⟨rfl, rfl, rfl, rfl, rfl, nofun, fun _ => ⟨hstop, rfl, rfl, fun h => absurd h hf,
          fun _ => rfl, fun _ _ _ _ => ⟨rfl, rfl⟩, fun _ hgap => ?_⟩⟩
        rcases hgap with hgap | hgap | hgap
        · rw [hmode] at hgap
          cases hgap
        · rw [hquiet] at hgap
          cases hgap
        · exact absurd hqueue hgap
      · rw [afterCycle_of_gap hstop hf hrest]
        exact ⟨rfl, rfl, rfl, rfl, rfl, nofun, fun _ => ⟨hstop, rfl, rfl, fun h => absurd h hf,
          fun _ => rfl, fun _ hmode hquiet hqueue => absurd ⟨hmode, hquiet, hqueue⟩ hrest,
          fun _ _ => rfl⟩⟩

/-! ### The next cycle -/

theorem namedWithMark_iff {s : State} {n : StringNo} {k : SlotNo} :
    NamedWithMark s n k ↔ ∃ e, s.namesMarked n k e = true := by
  constructor
  · rintro ⟨e, b, m, hb, hkey⟩
    exact ⟨e, State.namesMarked_iff.mpr ⟨m, by rw [State.keyOf, hb, Option.map_some, hkey]⟩⟩
  · rintro ⟨e, he⟩
    obtain ⟨m, hkey⟩ := State.namesMarked_iff.mp he
    obtain ⟨b, hb, hbkey⟩ := Option.map_eq_some_iff.mp hkey
    exact ⟨e, b, m, hb, hbkey⟩

theorem mem_markedAt {s : State} {n : StringNo} {k : SlotNo} {e : EntryNo} :
    e ∈ s.markedAt n k ↔ s.namesMarked n k e = true := by
  simp [State.markedAt, allEntries]

theorem markedAt_eq_nil {s : State} {n : StringNo} {k : SlotNo} :
    s.markedAt n k = [] ↔ ¬ NamedWithMark s n k := by
  rw [namedWithMark_iff, List.eq_nil_iff_forall_not_mem, not_exists]
  simp only [mem_markedAt]

/-- Dropping head slots takes off those that no bound entry names with a mark, and clears their marks (R121). -/
theorem dropHeads_spec (s : State) (n : StringNo) (l : List SlotNo) (marks : Vector (BitVec 8) 24) :
    ∃ dropped, l = dropped ++ (s.dropHeads n l marks).1 ∧ (∀ k ∈ dropped, ¬ NamedWithMark s n k) ∧
      (∀ k ks, (s.dropHeads n l marks).1 = k :: ks → NamedWithMark s n k) ∧
      ∀ j : Fin 24, (s.dropHeads n l marks).2[j] = if j ∈ dropped then 0#8 else marks[j] := by
  induction l generalizing marks with
  | nil => exact ⟨[], rfl, nofun, nofun, fun j => by simp [State.dropHeads]⟩
  | cons k ks ih =>
    rw [State.dropHeads]
    split
    · rename_i hempty
      obtain ⟨dropped, hl, hdropped, hkept, hmarks⟩ := ih (marks.set k.val 0#8 k.isLt)
      refine ⟨k :: dropped, by rw [List.cons_append, ← hl], ?_, hkept, fun j => ?_⟩
      · intro j hj
        rcases List.mem_cons.mp hj with rfl | hj
        · exact markedAt_eq_nil.mp (List.isEmpty_iff.mp hempty)
        · exact hdropped j hj
      · rw [hmarks, Fin.getElem_fin, Vector.getElem_set]
        by_cases hjd : j ∈ dropped
        · simp [hjd]
        · by_cases hjk : j = k
          · simp [hjk]
          · simp [hjd, hjk, Fin.val_inj, Ne.symm hjk]
    · rename_i hnonempty
      refine ⟨[], rfl, nofun, fun j js hj => ?_, fun j => by simp⟩
      cases hj
      by_contra hunnamed
      exact hnonempty (List.isEmpty_iff.mpr (markedAt_eq_nil.mpr hunnamed))

/-- Settles O46: the slots dropped, the marks cleared, and the cycle of the slot that is left in front. -/
theorem nextCycleDropsUnnamedSlots : Obligations.NextCycleDropsUnnamedSlots := by
  intro s n hstate hcycle
  obtain ⟨dropped, hqueue, hdropped, hkept, hmarks⟩ :=
    dropHeads_spec s n (s.string n).rollCalls (s.string n).marks
  refine ⟨s.setString n (s.chooseCycle n), dropped,
    (s.dropHeads n (s.string n).rollCalls (s.string n).marks).1, ?_, hqueue, hdropped, hkept,
    (s.dropHeads n (s.string n).rollCalls (s.string n).marks).2, ?_, hmarks⟩
  · simp only [exec, execNextCycleChoice, hstate, hcycle, and_self, if_true]
  · rw [State.chooseCycle]
    cases (s.dropHeads n (s.string n).rollCalls (s.string n).marks).1 <;> rfl

/-! ### The tick -/

theorem withService_self {b : Entry} {v : Service} (h : b.service = some v) : b.withService v = b := by
  rcases phase_of_service h with hp | hp
  · simp only [Entry.withService, hp]
    rw [← hp]
  · simp only [Entry.withService, hp]
    rw [← hp]

theorem tick_of_service {b : Entry} {v : Service} (h : b.service = some v) :
    b.tick = b.withLimit (v.limit.map RunningLimit.tick) := by
  rw [withLimit_eq h, Entry.tick, h]

theorem runningLimit_tick_eq (l : RunningLimit) :
    l.tick = if 1 < l.remaining.toNat then { l with remaining := l.remaining - 1#16 }
      else { l with expired := true } := by
  have hlt : 1#16 < l.remaining ↔ 1 < l.remaining.toNat := BitVec.lt_def
  unfold RunningLimit.tick
  split
  · rw [if_pos (hlt.mp ‹_›)]
  · rw [if_neg fun h => ‹¬ _› (hlt.mpr h)]

/-- Settles O52: every record by its running limit. -/
theorem tickCountsEveryRunningLimit : Obligations.TickCountsEveryRunningLimit := by
  intro s hr
  have hentry : ∀ e, s.tickAll.entry e = (s.entry e).map Entry.tick :=
    State.entry_mapEntries s Entry.tick
  refine ⟨s.tickAll, by simp [exec, execTick, hr], rfl, fun e he => ?_, fun e b hb =>
    ⟨fun hnone => ?_, fun v l hv hl => ?_⟩⟩
  · rw [hentry, he, Option.map_none]
  · rw [hentry, hb, Option.map_some]
    cases hv : b.service with
    | none => rw [Entry.tick, hv]
    | some v =>
      have hl : v.limit = none := by
        rw [hv] at hnone
        exact hnone
      have hsame : { v with limit := none } = v := by rw [← hl]
      rw [tick_of_service hv, hl, Option.map_none, withLimit_eq hv, hsame, withService_self hv]
  · rw [hentry, hb, Option.map_some, tick_of_service hv, hl, Option.map_some, runningLimit_tick_eq]

/-! ### The expiries -/

theorem outstanding_of_expired {s : State} {e : EntryNo} {b : Entry} {v : Service} {l : RunningLimit}
    (hb : s.entry e = some b) (hv : b.service = some v) (hl : v.limit = some l)
    (hx : l.expired = true) : s.outstanding e = some (b, v, l) := by
  simp [State.outstanding, hb, hv, hl, hx]

theorem outstanding_eq_none {s : State} {e : EntryNo}
    (h : ∀ b v l, s.entry e = some b → b.service = some v → v.limit = some l → l.expired = false) :
    s.outstanding e = none := by
  cases ho : s.outstanding e with
  | none => rfl
  | some x =>
    obtain ⟨b, v, l⟩ := x
    obtain ⟨hb, hv, hl, hx⟩ := outstanding_eq_some ho
    rw [h b v l hb hv hl] at hx
    cases hx

/-- Settles O53: the expiry that waits, and what clearing makes of it. -/
theorem firstExpirySetsOverdue : Obligations.FirstExpirySetsOverdue := by
  intro s e
  refine ⟨fun h => ?none, fun b v l hb hv hl hx hfirst => ?_⟩
  case none => simp only [exec, execFirstExpiry, outstanding_eq_none h]
  have ho := outstanding_of_expired hb hv hl hx
  refine ⟨fun hc => ?_, fun hc => ?_⟩
  · simp only [exec, execFirstExpiry, ho, hfirst, hc, if_true]
    rfl
  · refine ⟨s.takeFirstExpiry e b v l, ?_, rfl, fun e' hne => ?_, ?_, ?_⟩
    · simp only [exec, execFirstExpiry, ho, hfirst, hc, Bool.false_eq_true, if_false, if_true]
    · rw [State.takeFirstExpiry, State.entry_report, State.entry_setEntry_ne _ _ _ _ hne.symm]
    · rw [State.takeFirstExpiry, State.entry_report, State.entry_setEntry_same]
      rfl
    · exact reportedOnce_report (s.setEntry e (some (b.withService (s.afterFirstExpiry v l))))
        .overdue (.entry e)

/-- A withdrawal as the return of the entry, its number on the list, and the report (R85). -/
theorem withdraw_eq (s : State) (t : Taker) (e : EntryNo) :
    s.withdraw t e =
      ((s.giveBack t e).setWithdrawn t (appendWithdrawn (s.withdrawnOf t) e)).report .withdrawn
        (.entry e) := by
  rw [State.withdraw, State.giveBack_setWithdrawn]

theorem withdrawnOf_withdraw (s : State) (t : Taker) (e : EntryNo) (t' : Taker) :
    (s.withdraw t e).withdrawnOf t' =
      if t' = t then appendWithdrawn (s.withdrawnOf t) e else s.withdrawnOf t' := by
  rw [withdraw_eq, State.withdrawnOf_report, State.withdrawnOf_setWithdrawn, State.withdrawnOf_giveBack]
  simp only [eq_comm]

theorem entry_withdraw (s : State) (t : Taker) (e e' : EntryNo) :
    (s.withdraw t e).entry e' = (s.giveBack t e).entry e' := by
  rw [withdraw_eq, State.entry_report, State.entry_setWithdrawn]

theorem queues_withdraw (s : State) (t : Taker) (e : EntryNo) :
    (s.withdraw t e).queues = (s.giveBack t e).queues := by
  rw [withdraw_eq, State.queues_report, State.queues_setWithdrawn]

theorem reportedOnce_withdraw (s : State) (t : Taker) (e : EntryNo) :
    ReportedOnce s (s.withdraw t e) .withdrawn (.entry e) := by
  have hrows : ∀ u : State, u.conditions = s.conditions →
      ReportedOnce s (u.report .withdrawn (.entry e)) .withdrawn (.entry e) := by
    intro u hu
    have hcond : ∀ r, u.cond r = s.cond r := fun r => by simp only [State.cond, hu]
    have hreport := reportedOnce_report u .withdrawn (.entry e)
    simpa only [ReportedOnce, hcond] using hreport
  rw [withdraw_eq]
  refine hrows _ ?_
  rw [State.giveBack_frame]
  rfl

/-- Settles O54: the two policies, and the withdrawal by the state of the entry. -/
theorem secondExpiryWithdraws : Obligations.SecondExpiryWithdraws := by
  intro s e b v l hb hv hl hx hsecond
  have ho := outstanding_of_expired hb hv hl hx
  have htaken : s.clearing = false →
      exec (.secondExpiry e) s = .next (s.takeSecondExpiry e b v l) := fun hc => by
    simp only [exec, execSecondExpiry, ho, hsecond, hc, Bool.false_eq_true, if_false, if_true]
  refine ⟨fun hc => ?clearing, fun hc hpolicy => ?note, fun hc hpolicy => ?reclaim⟩
  case clearing =>
    simp only [exec, execSecondExpiry, ho, hsecond, hc, if_true]
    rfl
  case note => rw [htaken hc, State.takeSecondExpiry, hpolicy]
  case reclaim =>
    have hafter : (s.withdraw v.holder e).entry e = b.returned := by
      rw [entry_withdraw, State.entry_giveBack, if_pos rfl, hb, Option.bind_some]
    have hphase : ∀ b' w, s.entry e = some b' → b'.phase = .held w → b.phase = .held w := by
      intro b' w hb' hw
      rw [hb] at hb'
      cases hb'
      exact hw
    rw [htaken hc, State.takeSecondExpiry, hpolicy]
    refine ⟨s.withdraw v.holder e, rfl, s.withdraw_frame v.holder e, fun t => ?stack,
      fun t hne => ?others, fun hlt => ?short, fun hfull => ?full, fun e' hne => ?entries,
      fun hp => ?retiring, fun hp hd => ?dormant, fun hp hd k hk hk0 => ?raised,
      reportedOnce_withdraw s v.holder e⟩
    case stack =>
      rw [withdraw_eq, State.stack_report, State.stack_setWithdrawn, State.stack_giveBack]
      split
      · subst_vars; rfl
      · rfl
    case others => rw [withdrawnOf_withdraw, if_neg hne]
    case short => rw [withdrawnOf_withdraw, if_pos rfl, appendWithdrawn, Config.withdrawnLength, if_pos hlt]
    case full =>
      rw [withdrawnOf_withdraw, if_pos rfl, appendWithdrawn, Config.withdrawnLength,
        if_neg hfull.not_lt]
    case entries => rw [entry_withdraw, s.giveBack_other _ e e' hne.symm]
    case retiring =>
      rw [queues_withdraw]
      refine ⟨hafter.trans (by simp [Entry.returned, hp]),
        State.queues_giveBack_other (fun b' w hb' hw => ?_) _⟩
      have hheld := hphase b' w hb' hw
      rw [hp] at hheld
      cases hheld
    case dormant =>
      rw [queues_withdraw]
      refine ⟨hafter.trans (by simp [Entry.returned, hp, hd, Entry.leave]),
        State.queues_giveBack_other (fun b' w hb' hw => ?_) _⟩
      have hheld := hphase b' w hb' hw
      rw [hp] at hheld
      cases hheld
      exact hd
    case raised =>
      subst hk
      refine ⟨hafter.trans (by simp [Entry.returned, hp, hd, Entry.leave]), fun k' => ?_⟩
      rw [withdraw_eq, State.queue_report, State.queue_setWithdrawn]
      exact State.queue_giveBack_held hb hp hd hk0 v.holder k'

end Sys2Proof.Claims
end

section
/-! PROOFS. The end event of a faulted scan or roll call (O47). -/

namespace Sys2Proof.Claims

open Sys2Proof.Machine

/-! ### What faults a cycle -/

theorem faultedCycle_iff {len : Nat} {role : Nat → BitRole} {samples : BitVec len} :
    faultedCycle role samples = true ↔
      ∃ i < len, (role i).faultsLow = true ∧ samples.getLsbD i = true := by
  simp [faultedCycle]

/-- The bit times of a scan that fault it: CODE and the GAP bits (R95, R96). -/
theorem scanRole_faultsLow :
    ∀ i < 54, (scanRole i).faultsLow = true ↔ i = 3 ∨ i = 4 ∨ ∃ k : Fin 24, i = 6 + 2 * k.val := by
  decide

/-- The bit times of a roll call of slot k that fault it: the SLOT NUMBER bits of value 0 and the GAP bits
(R122, R124). -/
theorem rollCallRole_faultsLow (k : SlotNo) :
    ∀ i < 27, (rollCallRole k i).faultsLow = true ↔
      (∃ j : Fin 5, k.val.testBit (4 - j.val) = false ∧ i = 5 + j.val) ∨
        ∃ m : Fin 8, i = 11 + 2 * m.val := by
  revert k
  decide +kernel

theorem scanFaulted_iff {samples : BitVec 54} : scanFaulted samples = true ↔ ScanFaulted samples := by
  rw [scanFaulted, faultedCycle_iff]
  constructor
  · rintro ⟨i, hi, hrole, hlow⟩
    rcases (scanRole_faultsLow i hi).mp hrole with rfl | rfl | ⟨k, rfl⟩
    · exact .inl hlow
    · exact .inr (.inl hlow)
    · exact .inr (.inr ⟨k, hlow⟩)
  · rintro (hlow | hlow | ⟨k, hlow⟩)
    · exact ⟨3, by omega, rfl, hlow⟩
    · exact ⟨4, by omega, rfl, hlow⟩
    · have hi : 6 + 2 * k.val < 54 := by omega
      exact ⟨_, hi, (scanRole_faultsLow _ hi).mpr (.inr (.inr ⟨k, rfl⟩)), hlow⟩

theorem rollCallFaulted_iff {k : SlotNo} {samples : BitVec 27} :
    rollCallFaulted k samples = true ↔ RollCallFaulted k samples := by
  rw [rollCallFaulted, faultedCycle_iff]
  constructor
  · rintro ⟨i, hi, hrole, hlow⟩
    rcases (rollCallRole_faultsLow k i hi).mp hrole with ⟨j, hj, rfl⟩ | ⟨m, rfl⟩
    · exact .inl ⟨j, hj, hlow⟩
    · exact .inr ⟨m, hlow⟩
  · rintro (⟨j, hj, hlow⟩ | ⟨m, hlow⟩)
    · have hi : 5 + j.val < 27 := by omega
      exact ⟨_, hi, (rollCallRole_faultsLow k _ hi).mpr (.inl ⟨j, hj, rfl⟩), hlow⟩
    · have hi : 11 + 2 * m.val < 27 := by omega
      exact ⟨_, hi, (rollCallRole_faultsLow k _ hi).mpr (.inr ⟨m, rfl⟩), hlow⟩

/-! ### The end events, by whether the cycle was faulted -/

theorem bumpFaults_eq (c : Fin 4) : bumpFaults c = Fin.ofNat 4 (min 3 (c.val + 1)) := by
  revert c
  decide

/-- What a faulted cycle leaves of the state: its report, and the engine that `f` makes of the one with its
fault count raised. -/
def faultedWith (s : State) (n : StringNo) (f : StringEngine → StringEngine) : State :=
  (s.reportFault n).setString n (f { s.string n with faults := bumpFaults (s.string n).faults })

theorem faultedEnd_updateString (s : State) (n : StringNo) (f : StringEngine → StringEngine) :
    (s.faultedEnd n).updateString n f = faultedWith s n f := by
  rw [State.faultedEnd_eq, State.updateString_updateString, State.updateString,
    State.string_reportFault, faultedWith]

theorem exec_scanEnd_faulted {s : State} {n : StringNo} {samples : BitVec 54}
    (hstate : (s.string n).state = .running) (hcycle : (s.string n).cycle = some .scan)
    (hf : ScanFaulted samples) :
    exec (.scanEnd n samples) s = .next (faultedWith s n fun g => g.afterCycle false 54) := by
  have hfaulted := scanFaulted_iff.mpr hf
  have hend : s.endScan n samples = faultedWith s n fun g => g.afterCycle false 54 := by
    simp only [State.endScan, hfaulted, if_true, Bool.not_true, Bool.false_and,
      faultedEnd_updateString]
    rfl
  simp only [exec, execScanEnd, hstate, hcycle, and_self, if_true, hend]

theorem exec_rollCallEnd_faulted {s : State} {n : StringNo} {k : SlotNo} {samples : BitVec 27}
    (hstate : (s.string n).state = .running) (hcycle : (s.string n).cycle = some (.rollCall k))
    (hf : RollCallFaulted k samples) :
    exec (.rollCallEnd n samples) s =
      .next (faultedWith s n fun g => (g.dropRollCall k).afterCycle false 27) := by
  have hfaulted := rollCallFaulted_iff.mpr hf
  have hend : s.endRollCall n k samples =
      faultedWith s n fun g => (g.dropRollCall k).afterCycle false 27 := by
    simp only [State.endRollCall, hfaulted, if_true, faultedEnd_updateString]
    rfl
  simp only [exec, execRollCallEnd, hstate, hcycle, hend]

/-- The slot of a roll call leaves the head of the queue, whatever became of the rest of the engine. -/
theorem dropRollCall_eq (g : StringEngine) (k : SlotNo) :
    g.dropRollCall k =
      { g with rollCalls := if g.rollCalls.head? = some k then g.rollCalls.tail else g.rollCalls } := by
  unfold StringEngine.dropRollCall
  split <;> rfl

theorem faultedWith_frame (s : State) (n : StringNo) (f : StringEngine → StringEngine) :
    faultedWith s n f =
      { s with
        strings := (faultedWith s n f).strings
        conditions := (faultedWith s n f).conditions } := by
  unfold faultedWith State.reportFault
  split <;> rfl

theorem conditions_faultedWith (s : State) (n : StringNo) (f : StringEngine → StringEngine) :
    (faultedWith s n f).conditions = (s.reportFault n).conditions := rfl

theorem string_faultedWith (s : State) (n : StringNo) (f : StringEngine → StringEngine)
    (n' : StringNo) :
    (faultedWith s n f).string n' =
      if n = n' then f { s.string n with faults := bumpFaults (s.string n).faults }
      else s.string n' := by
  rw [faultedWith, State.string_setString, State.string_reportFault]

/-- Settles O47: both end events leave the report and the engine alone. -/
theorem faultedCycleIsDiscardedWhole : Obligations.FaultedCycleIsDiscardedWhole := by
  intro s n i left len hstate hend
  obtain ⟨f, hexec, hf⟩ : ∃ f, exec i s = .next (faultedWith s n f) ∧
      f { s.string n with faults := bumpFaults (s.string n).faults } =
        ({ s.string n with
          faults := bumpFaults (s.string n).faults, rollCalls := left } : StringEngine).afterCycle
          false len := by
    rcases hend with ⟨samples, rfl, hfault, hcycle, rfl, rfl⟩ | ⟨samples, k, rfl, hfault, hcycle, rfl, rfl⟩
    · exact ⟨_, exec_scanEnd_faulted hstate hcycle hfault, rfl⟩
    · refine ⟨_, exec_rollCallEnd_faulted hstate hcycle hfault, ?_⟩
      rw [dropRollCall_eq]
  refine ⟨faultedWith s n f, bumpFaults (s.string n).faults, hexec, faultedWith_frame s n f,
    bumpFaults_eq _, ?_, fun n' hne => ?_, fun hfew => ?_, fun hthird => ?_⟩
  · rw [string_faultedWith, if_pos rfl, hf]
  · rw [string_faultedWith, if_neg hne.symm]
  · rw [conditions_faultedWith, State.reportFault, if_neg hfew]
  · have hreport : s.reportFault n = s.report .stringFault (.string n) := by
      rw [State.reportFault, if_pos hthird]
    have hcond : ∀ r, (faultedWith s n f).cond r = (s.reportFault n).cond r := fun _ => rfl
    have hreported := reportedOnce_report s .stringFault (.string n)
    rw [← hreport] at hreported
    simpa only [ReportedOnce, hcond] using hreported

end Sys2Proof.Claims
end

section
/-! PROOFS. The findings of a good scan or roll call in the directory: what they leave of the entries they visit,
and of the queues (R10, R11, R32, R34). -/

namespace Sys2Proof.Claims

open Sys2Proof.Machine Sys2Proof.Safety

/-! ### What a finding may change -/

/-- A finding changes entries, queues and conditions alone. -/
def FindingFrame (s u : State) : Prop :=
  u = { s with entries := u.entries, queues := u.queues, conditions := u.conditions }

namespace FindingFrame

variable {s u v : State}

theorem refl (s : State) : FindingFrame s s := rfl

theorem trans (h : FindingFrame s u) (h' : FindingFrame u v) : FindingFrame s v := by
  unfold FindingFrame at h'
  rw [h] at h'
  exact h'

theorem occurrence (u : State) (e : EntryNo) : FindingFrame u (u.occurrence e) := by
  rw [FindingFrame, State.occurrence_frame]

theorem lapse (u : State) (e : EntryNo) : FindingFrame u (u.lapse e) := by
  rw [FindingFrame, State.lapse_frame]

theorem report (u : State) (r : CondRow) (w : Culprit) : FindingFrame u (u.report r w) := rfl

theorem clearing (h : FindingFrame s u) : u.clearing = s.clearing := by
  rw [h]
  rfl

end FindingFrame

/-! ### One entry -/

/-- The step from u to u' makes of entry e what `f` says, and places it in the queues by it (R29, R32, R34). -/
structure Settles (f : Entry → Entry) (e : EntryNo) (u u' : State) : Prop where
  frame : FindingFrame u u'
  entry : ∀ e', u'.entry e' = if e' = e then (u.entry e).map f else u.entry e'
  queue : ∀ b, u.entry e = some b → b.level ≠ 0 → ∀ k,
    u'.queue k =
      if b.phase = .armed ∧ (f b).phase = .raised ∧ k = b.level then u.queue k ++ [e]
      else if b.phase = .raised ∧ (f b).phase ≠ .raised ∧ k = b.level then (u.queue k).erase e
      else u.queue k

namespace Settles

variable {f : Entry → Entry} {e : EntryNo} {u : State} {b : Entry}

theorem occurrence (hc : u.clearing = false) (hb : u.entry e = some b) (hf : f b = afterOccurrence b) :
    Settles f e u (u.occurrence e) := by
  refine ⟨.occurrence u e, fun e' => ?_, fun b' hb' hk k => ?_⟩
  · rw [entry_occurrence hc, hb, Option.map_some, Option.map_some, hf]
  · obtain rfl : b = b' := Option.some.inj (hb.symm.trans hb')
    rw [queue_occurrence hc hb hk, hf]
    cases hp : b.phase <;> simp [afterOccurrence, hp]

theorem lapse (hc : u.clearing = false) (hb : u.entry e = some b) (hf : f b = afterLapse b) :
    Settles f e u (u.lapse e) := by
  refine ⟨.lapse u e, fun e' => ?_, fun b' hb' hk k => ?_⟩
  · rw [entry_lapse hc, hb, Option.map_some, Option.map_some, hf]
  · obtain rfl : b = b' := Option.some.inj (hb.symm.trans hb')
    rw [queue_lapse hc hb, hf]
    cases hp : b.phase <;> simp [afterLapse, hp]

/-- An entry that `f` leaves as it is needs no step. -/
theorem nothing (hb : u.entry e = some b) (hf : f b = b) : Settles f e u u := by
  refine ⟨.refl u, fun e' => ?_, fun b' hb' _ k => ?_⟩
  · rw [hb, Option.map_some, hf]
    split
    · subst_vars; exact hb
    · rfl
  · obtain rfl : b = b' := Option.some.inj (hb.symm.trans hb')
    rw [hf]
    cases hp : b.phase <;> simp

end Settles

/-! ### The entries visited so far -/

/-- `f` takes this record from ARMED to RAISED, at level k. -/
def raisesAt (f : Entry → Entry) (k : Level) : Option Entry → Bool
  | none => false
  | some b => decide (b.level = k ∧ b.phase = .armed ∧ (f b).phase = .raised)

/-- `f` leaves this record RAISED. -/
def staysRaised (f : Entry → Entry) : Option Entry → Bool
  | none => true
  | some b => decide ((f b).phase = .raised)

/-- From s to u the entries of L, visited in their order, became what `f` says, and stand in the queues by it. -/
structure Settled (f : Entry → Entry) (s : State) (L : List EntryNo) (u : State) : Prop where
  frame : FindingFrame s u
  entry : ∀ e, u.entry e = if e ∈ L then (s.entry e).map f else s.entry e
  queue : QueuesMatch s → EntriesOk s → ∀ k,
    u.queue k =
      ((s.queue k).filter fun e => decide (e ∉ L) || staysRaised f (s.entry e)) ++
        L.filter fun e => raisesAt f k (s.entry e)

theorem mem_queue_of_raised {s : State} (hs : QueuesMatch s) {e : EntryNo} {b : Entry}
    (hb : s.entry e = some b) {k : Level} : e ∈ s.queue k ↔ b.phase = .raised ∧ k = b.level := by
  rw [mem_queue_iff hs, hb]
  by_cases hp : b.phase = .raised
  · rw [raisedLevel_of_raised hp]
    simp [hp, eq_comm]
  · rw [raisedLevel_of_not_raised hp]
    simp [hp]

namespace Settled

variable {f : Entry → Entry} {s u u' : State} {L : List EntryNo} {e : EntryNo} {b : Entry}

theorem start (f : Entry → Entry) (s : State) : Settled f s [] s where
  frame := .refl s
  entry _ := by simp
  queue _ _ k := by simp

theorem report (h : Settled f s L u) (r : CondRow) (w : Culprit) : Settled f s L (u.report r w) where
  frame := h.frame.trans (.report u r w)
  entry := h.entry
  queue := h.queue

theorem entry_unvisited (h : Settled f s L u) (he : e ∉ L) : u.entry e = s.entry e := by
  rw [h.entry, if_neg he]

theorem sameKeys (hf : ∀ b, (f b).key = b.key) (h : Settled f s L u) : SameKeys s u := by
  intro e
  rw [State.keyOf, h.entry]
  split
  · rw [Option.map_map, State.keyOf]
    exact congrArg (Option.map · _) (funext hf)
  · rfl

/-- Of the queue that s has, the next entry visited decides about itself alone. -/
theorem filter_visit (hs : QueuesMatch s) (hb : s.entry e = some b) (he : e ∉ L) (k : Level) :
    ((s.queue k).filter fun x => decide (x ∉ L ++ [e]) || staysRaised f (s.entry x)) =
      if b.phase = .raised ∧ (f b).phase ≠ .raised ∧ k = b.level then
        ((s.queue k).filter fun x => decide (x ∉ L) || staysRaised f (s.entry x)).erase e
      else (s.queue k).filter fun x => decide (x ∉ L) || staysRaised f (s.entry x) := by
  split
  · rename_i hleaves
    obtain ⟨-, hafter, -⟩ := hleaves
    rw [((queue_nodup hs k).filter _).erase_eq_filter, List.filter_filter]
    refine List.filter_congr fun x _ => ?_
    by_cases hx : x = e
    · subst hx; simp [hb, staysRaised, hafter]
    · simp [hx]
  · rename_i hstays
    refine List.filter_congr fun x hx => ?_
    by_cases hxe : x = e
    · subst hxe
      obtain ⟨hraised, hk⟩ := (mem_queue_of_raised hs hb).mp hx
      have hafter : (f b).phase = .raised := by
        by_contra hafter
        exact hstays ⟨hraised, hafter, hk⟩
      simp [hb, staysRaised, hafter]
    · simp [hxe]

theorem step (h : Settled f s L u) (hb : s.entry e = some b) (he : e ∉ L) (hstep : Settles f e u u') :
    Settled f s (L ++ [e]) u' where
  frame := h.frame.trans hstep.frame
  entry e' := by
    rw [hstep.entry, h.entry_unvisited he, h.entry]
    by_cases hee : e' = e
    · simp [hee]
    · simp [hee]
  queue hqueues hentries k := by
    have hlevel : b.level ≠ 0 := (hentries e b hb).1
    rw [hstep.queue b (h.entry_unvisited he ▸ hb) hlevel, h.queue hqueues hentries,
      filter_visit hqueues hb he, List.filter_append]
    by_cases hjoins : b.phase = .armed ∧ (f b).phase = .raised ∧ k = b.level
    · obtain ⟨harmed, hraised, rfl⟩ := hjoins
      simp [harmed, hraised, hb, raisesAt]
    · have hjoin : [e].filter (fun x => raisesAt f k (s.entry x)) = [] := by
        refine List.filter_eq_nil_iff.mpr fun x hx => ?_
        rw [List.mem_singleton.mp hx, hb, raisesAt, decide_eq_true_iff]
        exact fun ⟨hk, harmed, hraised⟩ => hjoins ⟨harmed, hraised, hk.symm⟩
      rw [if_neg hjoins, hjoin, List.append_nil]
      by_cases hleaves : b.phase = .raised ∧ (f b).phase ≠ .raised ∧ k = b.level
      · rw [if_pos hleaves, if_pos hleaves]
        obtain ⟨hraised, -, hk⟩ := hleaves
        refine List.erase_append_left _ (List.mem_filter.mpr ⟨?_, by simp [he]⟩)
        exact (mem_queue_of_raised hqueues hb).mpr ⟨hraised, hk⟩
      · rw [if_neg hleaves, if_neg hleaves]

/-- A fold whose steps visit entries apart visits them all, in the order of the steps. -/
theorem foldl {ι : Type} {σ : State → ι → State} {names : ι → List EntryNo}
    (hstep : ∀ i L u, Settled f s L u → (∀ e ∈ names i, e ∉ L) → Settled f s (L ++ names i) (σ u i))
    (items : List ι) (h : Settled f s L u)
    (hapart : items.Pairwise fun i j => ∀ e ∈ names j, e ∉ names i)
    (hfresh : ∀ i ∈ items, ∀ e ∈ names i, e ∉ L) :
    Settled f s (L ++ items.flatMap names) (items.foldl σ u) := by
  induction items generalizing L u with
  | nil => simpa using h
  | cons i items ih =>
    obtain ⟨hi, hitems⟩ := List.pairwise_cons.mp hapart
    rw [List.flatMap_cons, ← List.append_assoc, List.foldl_cons]
    refine ih (hstep i L u h (hfresh i (List.mem_cons_self ..))) hitems fun j hj e he => ?_
    rw [List.mem_append, not_or]
    exact ⟨hfresh j (List.mem_cons_of_mem _ hj) e he, hi j hj e he⟩

/-- Entries visited one by one. -/
theorem visit {σ : State → EntryNo → State} (items : List EntryNo) (h : Settled f s L u)
    (hbound : ∀ e ∈ items, ∃ b, s.entry e = some b)
    (hstep : ∀ e ∈ items, ∀ v, FindingFrame s v → v.entry e = s.entry e → Settles f e v (σ v e))
    (hnodup : items.Nodup) (hfresh : ∀ e ∈ items, e ∉ L) :
    Settled f s (L ++ items) (items.foldl σ u) := by
  induction items generalizing L u with
  | nil => simpa using h
  | cons e items ih =>
    obtain ⟨he, hitems⟩ := List.nodup_cons.mp hnodup
    obtain ⟨b, hb⟩ := hbound e (List.mem_cons_self ..)
    have hfresh_e := hfresh e (List.mem_cons_self ..)
    have hfirst := h.step hb hfresh_e
      (hstep e (List.mem_cons_self ..) u h.frame (h.entry_unvisited hfresh_e))
    rw [List.foldl_cons, List.append_cons]
    refine ih hfirst (fun x hx => hbound x (List.mem_cons_of_mem _ hx))
      (fun x hx => hstep x (List.mem_cons_of_mem _ hx)) hitems fun x hx => ?_
    rw [List.mem_append, List.mem_singleton, not_or]
    exact ⟨hfresh x (List.mem_cons_of_mem _ hx), fun hxe => he (hxe ▸ hx)⟩

/-- Every entry became what `f` says when the others are such that `f` leaves them. -/
theorem entry_eq (h : Settled f s L u) (hothers : ∀ e b, e ∉ L → s.entry e = some b → f b = b)
    (e : EntryNo) : u.entry e = (s.entry e).map f := by
  rw [h.entry]
  split
  · rfl
  · rename_i he
    cases hb : s.entry e with
    | none => rfl
    | some b => rw [Option.map_some, hothers e b he hb]

/-- The queues are those of `queueAfter` when each key names the entry it raises. -/
theorem queue_eq {ι : Type} {names : ι → List EntryNo} {items : List ι} {key : ι → Key}
    (h : Settled f s (items.flatMap names) u)
    (hothers : ∀ e b, e ∉ items.flatMap names → s.entry e = some b → f b = b)
    {k : Level}
    (hkeys : ∀ i ∈ items,
      (names i).filter (fun e => raisesAt f k (s.entry e)) = (raisedFor s f k (key i)).toList)
    (hqueues : QueuesMatch s) (hentries : EntriesOk s) :
    u.queue k = queueAfter s f (items.map key) k := by
  have hstay : ∀ e ∈ s.queue k,
      (decide (e ∉ items.flatMap names) || staysRaised f (s.entry e)) = staysRaised f (s.entry e) := by
    intro e he
    by_cases hvisited : e ∈ items.flatMap names
    · simp [-List.mem_flatMap, hvisited]
    · cases hb : s.entry e with
      | none => simp [staysRaised]
      | some b =>
        have hraised := ((mem_queue_of_raised hqueues hb).mp he).1
        simp [staysRaised, hothers e b hvisited hb, hraised]
  have hjoin : (items.flatMap names).filter (fun e => raisesAt f k (s.entry e)) =
      (items.map key).filterMap (raisedFor s f k) := by
    rw [List.filter_flatMap, List.filterMap_map, List.filterMap_eq_flatMap_toList]
    exact List.flatMap_congr hkeys
  rw [h.queue hqueues hentries, List.filter_congr hstay, hjoin]
  rfl

end Settled

end Sys2Proof.Claims
end

section
/-! PROOFS. The findings of a good scan, entry by entry (R111 to R116). -/

namespace Sys2Proof.Claims

open Sys2Proof.Machine Sys2Proof.Safety

/-! ### The entry that a key names -/

theorem clash_self (key : Key) : key.clash key = true := by
  cases key with
  | posted c => simp [Key.clash]
  | wire n k m => cases m <;> simp [Key.clash]

theorem eq_of_clash {s : State} (hs : KeysDistinct s) {e e' : EntryNo} {b b' : Entry}
    (hb : s.entry e = some b) (hb' : s.entry e' = some b') (h : b.key.clash b'.key = true) : e = e' := by
  by_contra hne
  rw [hs e e' b b' hb hb' hne] at h
  cases h

theorem findKey_of_entry {s : State} (hs : KeysDistinct s) {e : EntryNo} {b : Entry}
    (hb : s.entry e = some b) : s.findKey b.key = some e := by
  refine State.findKey_of_unique fun e' => ⟨fun he' => ?_, ?_⟩
  · obtain ⟨b', hb', hkey⟩ := State.hasKey_iff.mp he'
    exact eq_of_clash hs hb' hb (hkey ▸ clash_self _)
  · rintro rfl
    exact State.hasKey_iff.mpr ⟨b, hb, rfl⟩

theorem entry_of_findKey {s : State} {key : Key} {e : EntryNo} (h : s.findKey key = some e) :
    ∃ b, s.entry e = some b ∧ b.key = key :=
  State.hasKey_iff.mp (State.hasKey_of_findKey h)

theorem raisedFor_iff {s : State} {f : Entry → Entry} {k : Level} {key : Key} {e : EntryNo}
    (h : raisedFor s f k key = some e) : s.hasKey key e = true ∧ raisesAt f k (s.entry e) = true := by
  have hp := List.find?_some h
  cases hb : s.entry e with
  | none => simp [hb] at hp
  | some b =>
    simp only [hb, decide_eq_true_iff] at hp
    obtain ⟨hkey, hlevel, harmed, hraised⟩ := hp
    exact ⟨State.hasKey_iff.mpr ⟨b, hb, hkey⟩, by simp [raisesAt, hlevel, harmed, hraised]⟩

/-- The entry raised for a key is the one that the key names, if it is raised at all. -/
theorem raisedFor_eq {s : State} (hs : KeysDistinct s) (f : Entry → Entry) (k : Level) (key : Key) :
    (s.findKey key).toList.filter (fun e => raisesAt f k (s.entry e)) =
      (raisedFor s f k key).toList := by
  cases hr : raisedFor s f k key with
  | some e =>
    obtain ⟨hkey, hraises⟩ := raisedFor_iff hr
    obtain ⟨b, hb, rfl⟩ := State.hasKey_iff.mp hkey
    simp [findKey_of_entry hs hb, hraises]
  | none =>
    cases hfind : s.findKey key with
    | none => rfl
    | some e =>
      obtain ⟨b, hb, hkey⟩ := entry_of_findKey hfind
      have hnot := List.find?_eq_none.mp hr e (List.mem_finRange e)
      have hraises : ¬ raisesAt f k (s.entry e) = true := by
        simpa [hb, raisesAt, hkey] using hnot
      simp [hraises]

/-! ### What a good scan makes of a record -/

section ScanEffect

variable {n : StringNo} {k : SlotNo} {samples : BitVec 54} {history : BitVec 24} {b : Entry}

theorem key_scanEffect (b : Entry) : (scanEffect n samples history b).key = b.key := by
  unfold scanEffect
  split
  · rfl
  · split
    · rfl
    · split
      · split <;> simp only [key_afterOccurrence]
      · split <;> simp only [key_afterOccurrence, key_afterLapse]
      · rfl
      · split <;> simp only [key_afterLapse]

theorem scanEffect_edge (hkey : b.key = .wire n k none) (hs : b.sense = .edge) :
    scanEffect n samples history b =
      if slotActive samples k.val && !history.getLsbD k.val then afterOccurrence b else b := by
  simp [scanEffect, hkey, hs, slotActive]

theorem scanEffect_level (hkey : b.key = .wire n k none) (hs : b.sense = .level) :
    scanEffect n samples history b =
      if slotActive samples k.val then afterOccurrence b else afterLapse b := by
  simp only [scanEffect, hkey, hs, ne_eq, not_true_eq_false, if_false]
  rfl

theorem scanEffect_marked_edge {m : Mark} (hkey : b.key = .wire n k (some m)) (hs : b.sense = .edge) :
    scanEffect n samples history b = b := by
  simp [scanEffect, hkey, hs]

theorem scanEffect_marked_level {m : Mark} (hkey : b.key = .wire n k (some m))
    (hs : b.sense = .level) :
    scanEffect n samples history b = if slotActive samples k.val then b else afterLapse b := by
  simp only [scanEffect, hkey, hs, ne_eq, not_true_eq_false, if_false]
  rfl

theorem scanEffect_other (hkey : ∀ k m, b.key ≠ .wire n k m) : scanEffect n samples history b = b := by
  unfold scanEffect
  cases hk : b.key with
  | posted c => rfl
  | wire n' k m =>
    have hne : n' ≠ n := fun h => hkey k m (h ▸ hk)
    simp [hne]

/-- No lapse raises an entry. -/
theorem phase_afterLapse_ne_raised (b : Entry) : (afterLapse b).phase ≠ .raised := by
  unfold afterLapse
  cases hp : b.phase <;> simp [hp]

end ScanEffect

/-! ### The entries a slot's finding visits -/

/-- The entries that name slot k: the unmarked one, or the marked ones in ascending order (R8, R111). -/
def scanNames (s : State) (n : StringNo) (k : SlotNo) : List EntryNo :=
  match s.findKey (.wire n k none) with
  | some e => [e]
  | none => s.markedAt n k

theorem mem_markedAt_iff {s : State} {n : StringNo} {k : SlotNo} {e : EntryNo} :
    e ∈ s.markedAt n k ↔ ∃ b m, s.entry e = some b ∧ b.key = .wire n k (some m) := by
  rw [mem_markedAt, State.namesMarked_iff]
  simp only [State.keyOf, Option.map_eq_some_iff]
  exact ⟨fun ⟨m, b, h⟩ => ⟨b, m, h⟩, fun ⟨b, m, h⟩ => ⟨m, b, h⟩⟩

theorem markedAt_nodup (s : State) (n : StringNo) (k : SlotNo) : (s.markedAt n k).Nodup :=
  (List.nodup_finRange 96).filter _

theorem entry_of_mem_scanNames {s : State} {n : StringNo} {k : SlotNo} {e : EntryNo}
    (h : e ∈ scanNames s n k) : ∃ b m, s.entry e = some b ∧ b.key = .wire n k m := by
  unfold scanNames at h
  cases hfind : s.findKey (.wire n k none) with
  | some e' =>
    rw [hfind] at h
    obtain rfl := List.mem_singleton.mp h
    obtain ⟨b, hb, hkey⟩ := entry_of_findKey hfind
    exact ⟨b, none, hb, hkey⟩
  | none =>
    rw [hfind] at h
    obtain ⟨b, m, hb, hkey⟩ := mem_markedAt_iff.mp h
    exact ⟨b, some m, hb, hkey⟩

theorem mem_scanNames {s : State} (hs : KeysDistinct s) {n : StringNo} {k : SlotNo} {e : EntryNo}
    {b : Entry} {m : Option Mark} (hb : s.entry e = some b) (hkey : b.key = .wire n k m) :
    e ∈ scanNames s n k := by
  unfold scanNames
  cases m with
  | none =>
    rw [← hkey, findKey_of_entry hs hb]
    exact List.mem_singleton_self e
  | some m =>
    cases hfind : s.findKey (.wire n k none) with
    | none => exact mem_markedAt_iff.mpr ⟨b, m, hb, hkey⟩
    | some e' =>
      obtain ⟨b', hb', hkey'⟩ := entry_of_findKey hfind
      exact List.mem_singleton.mpr (eq_of_clash hs hb hb' (by simp [hkey, hkey', Key.clash]))

theorem scanNames_apart {s : State} {n : StringNo} {k k' : SlotNo} (hne : k ≠ k') :
    ∀ e ∈ scanNames s n k', e ∉ scanNames s n k := by
  intro e he' he
  obtain ⟨b, m, hb, hkey⟩ := entry_of_mem_scanNames he
  obtain ⟨b', m', hb', hkey'⟩ := entry_of_mem_scanNames he'
  obtain rfl := Option.some.inj (hb.symm.trans hb')
  rw [hkey] at hkey'
  cases hkey'
  exact hne rfl

/-! ### The findings of a slot -/

theorem senseAt_of_entry {s : State} {e : EntryNo} {b : Entry} (hb : s.entry e = some b) :
    s.senseAt e = b.sense := by
  simp [State.senseAt, hb]

section Slot

variable {n : StringNo} {k : SlotNo} {samples : BitVec 54} {history : BitVec 24}

theorem settles_scanUnmarked {u : State} {e : EntryNo} {b : Entry} (hc : u.clearing = false)
    (hb : u.entry e = some b) (hkey : b.key = .wire n k none) :
    Settles (scanEffect n samples history) e u
      (u.scanUnmarked (slotActive samples k.val) (history.getLsbD k.val) e) := by
  unfold State.scanUnmarked
  rw [senseAt_of_entry hb]
  cases hs : b.sense with
  | edge =>
    have heffect := scanEffect_edge (samples := samples) (history := history) hkey hs
    dsimp only
    split <;> rename_i hrises
    · exact .occurrence hc hb (by rw [heffect, if_pos hrises])
    · exact .nothing hb (by rw [heffect, if_neg hrises])
  | level =>
    have heffect := scanEffect_level (samples := samples) (history := history) hkey hs
    dsimp only
    split <;> rename_i hactive
    · exact .occurrence hc hb (by rw [heffect, if_pos hactive])
    · exact .lapse hc hb (by rw [heffect, if_neg hactive])

theorem settles_marked_inactive {u : State} {e : EntryNo} {b : Entry} {m : Mark}
    (hc : u.clearing = false) (hb : u.entry e = some b) (hkey : b.key = .wire n k (some m))
    (hactive : slotActive samples k.val = false) :
    Settles (scanEffect n samples history) e u (u.lapseIfLevel e) := by
  unfold State.lapseIfLevel
  rw [senseAt_of_entry hb]
  cases hs : b.sense with
  | edge => exact .nothing hb (scanEffect_marked_edge hkey hs)
  | level =>
    refine .lapse hc hb ?_
    rw [scanEffect_marked_level hkey hs, hactive, if_neg Bool.false_ne_true]

theorem settles_marked_active {u : State} {e : EntryNo} {b : Entry} {m : Mark}
    (hb : u.entry e = some b) (hkey : b.key = .wire n k (some m))
    (hactive : slotActive samples k.val = true) :
    Settles (scanEffect n samples history) e u u := by
  refine .nothing hb ?_
  cases hs : b.sense with
  | edge => exact scanEffect_marked_edge hkey hs
  | level => rw [scanEffect_marked_level hkey hs, hactive, if_pos rfl]

theorem settled_scanFinding {s u : State} {L : List EntryNo} (hc : s.clearing = false)
    (h : Settled (scanEffect n samples history) s L u) (hfresh : ∀ e ∈ scanNames s n k, e ∉ L) :
    Settled (scanEffect n samples history) s (L ++ scanNames s n k)
      (u.scanFinding n k (slotActive samples k.val) (history.getLsbD k.val)) := by
  have hkeys : SameKeys s u := h.sameKeys key_scanEffect
  unfold State.scanFinding
  rw [hkeys.findKey, hkeys.markedAt]
  unfold scanNames at hfresh ⊢
  cases hfind : s.findKey (.wire n k none) with
  | some e =>
    obtain ⟨b, hb, hkey⟩ := entry_of_findKey hfind
    have he : e ∉ L := by simpa [hfind] using hfresh
    exact h.step hb he
      (settles_scanUnmarked (h.frame.clearing.trans hc) (h.entry_unvisited he ▸ hb) hkey)
  | none =>
    rw [hfind] at hfresh
    have hbound : ∀ e ∈ s.markedAt n k, ∃ b, s.entry e = some b := fun e he =>
      let ⟨b, _, hb, _⟩ := mem_markedAt_iff.mp he
      ⟨b, hb⟩
    have hnodup := markedAt_nodup s n k
    cases hactive : slotActive samples k.val with
    | true =>
      have hvisit := h.visit (σ := fun v _ => v) (s.markedAt n k) hbound
        (fun e he v _ hv => by
          obtain ⟨b, m, hb, hkey⟩ := mem_markedAt_iff.mp he
          exact settles_marked_active (hv ▸ hb) hkey hactive) hnodup hfresh
      rw [List.foldl_fixed] at hvisit
      cases hmarked : s.markedAt n k with
      | nil =>
        rw [hmarked] at hvisit
        dsimp only
        split
        · exact hvisit.report _ _
        · exact hvisit
      | cons e es => rw [hmarked] at hvisit; exact hvisit
    | false =>
      have hvisit := h.visit (σ := State.lapseIfLevel) (s.markedAt n k) hbound
        (fun e he v hframe hv => by
          obtain ⟨b, m, hb, hkey⟩ := mem_markedAt_iff.mp he
          exact settles_marked_inactive (hframe.clearing.trans hc) (hv ▸ hb) hkey hactive)
        hnodup hfresh
      cases hmarked : s.markedAt n k with
      | nil => rw [hmarked] at hvisit; exact hvisit
      | cons e es => rw [hmarked] at hvisit; exact hvisit

end Slot

/-! ### The findings of the scan -/

section Scan

variable {s : State} (n : StringNo) (samples : BitVec 54) (history : BitVec 24)

/-- The findings of a good scan visit the entries that name its slots, in ascending slot order. -/
theorem settled_scanFindings (hc : s.clearing = false) :
    Settled (scanEffect n samples history) s ((List.finRange 24).flatMap (scanNames s n))
      (s.scanFindings n samples history (List.finRange 24)) := by
  have hfold := (Settled.start (scanEffect n samples history) s).foldl
    (names := scanNames s n)
    (σ := fun u k => u.scanFinding n k (slotActive samples k.val) (history.getLsbD k.val))
    (fun k L u h hfresh => settled_scanFinding hc h hfresh) (List.finRange 24)
    ((List.nodup_finRange 24).imp scanNames_apart) (fun _ _ _ _ => List.not_mem_nil)
  rwa [List.nil_append] at hfold

theorem scanEffect_unvisited (hs : KeysDistinct s) {e : EntryNo} {b : Entry}
    (he : e ∉ (List.finRange 24).flatMap (scanNames s n)) (hb : s.entry e = some b) :
    scanEffect n samples history b = b :=
  scanEffect_other fun k _ hkey =>
    he (List.mem_flatMap.mpr ⟨k, List.mem_finRange k, mem_scanNames hs hb hkey⟩)

theorem entry_scanFindings (hs : KeysDistinct s) (hc : s.clearing = false) (e : EntryNo) :
    (s.scanFindings n samples history (List.finRange 24)).entry e =
      (s.entry e).map (scanEffect n samples history) :=
  (settled_scanFindings n samples history hc).entry_eq
    (fun _ _ he hb => scanEffect_unvisited n samples history hs he hb) e

/-- A marked entry is not raised by a scan, so the entry that a slot's finding raises is its unmarked one. -/
theorem scanNames_filter_raises (hs : KeysDistinct s) (k : SlotNo) (j : Level) :
    (scanNames s n k).filter
        (fun e => raisesAt (scanEffect n samples history) j (s.entry e)) =
      (raisedFor s (scanEffect n samples history) j (.wire n k none)).toList := by
  rw [← raisedFor_eq hs]
  unfold scanNames
  cases s.findKey (.wire n k none) with
  | some e => rfl
  | none =>
    refine List.filter_eq_nil_iff.mpr fun e he => ?_
    obtain ⟨b, m, hb, hkey⟩ := mem_markedAt_iff.mp he
    rw [hb, raisesAt, decide_eq_true_iff]
    rintro ⟨-, harmed, hraised⟩
    cases hsense : b.sense with
    | edge =>
      rw [scanEffect_marked_edge hkey hsense, harmed] at hraised
      cases hraised
    | level =>
      rw [scanEffect_marked_level hkey hsense] at hraised
      split at hraised
      · rw [harmed] at hraised
        cases hraised
      · exact phase_afterLapse_ne_raised b hraised

theorem queue_scanFindings (hs : KeysDistinct s) (hc : s.clearing = false) (hqueues : QueuesMatch s)
    (hentries : EntriesOk s) (j : Level) :
    (s.scanFindings n samples history (List.finRange 24)).queue j =
      queueAfter s (scanEffect n samples history)
        ((List.finRange 24).map fun k => .wire n k none) j :=
  (settled_scanFindings n samples history hc).queue_eq
    (fun _ _ he hb => scanEffect_unvisited n samples history hs he hb)
    (fun k _ => scanNames_filter_raises n samples history hs k j) hqueues hentries

end Scan

end Sys2Proof.Claims
end

section
/-! PROOFS. The end event of a good scan (O48, O49). -/

namespace Sys2Proof.Claims

open Sys2Proof.Machine Sys2Proof.Safety

/-! ### Findings while clearing -/

theorem FindingFrame.foldl {ι : Type} {σ : State → ι → State} (hσ : ∀ u i, FindingFrame u (σ u i))
    (items : List ι) (s : State) : FindingFrame s (items.foldl σ s) := by
  induction items generalizing s with
  | nil => exact .refl s
  | cons i items ih => exact (hσ s i).trans (ih (σ s i))

/-- A step that leaves the directory as it stands, as every finding does while clearing (R27). -/
structure Discards (s u : State) : Prop where
  frame : FindingFrame s u
  entries : u.entries = s.entries
  queues : u.queues = s.queues

namespace Discards

variable {s u v : State}

theorem refl (s : State) : Discards s s := ⟨.refl s, rfl, rfl⟩

theorem trans (h : Discards s u) (h' : Discards u v) : Discards s v :=
  ⟨h.frame.trans h'.frame, h'.entries.trans h.entries, h'.queues.trans h.queues⟩

theorem report (s : State) (r : CondRow) (w : Culprit) : Discards s (s.report r w) := ⟨rfl, rfl, rfl⟩

theorem occurrence (hc : s.clearing = true) (e : EntryNo) : Discards s (s.occurrence e) := by
  rw [s.occurrence_clearing e hc]
  exact .refl s

theorem lapse (hc : s.clearing = true) (e : EntryNo) : Discards s (s.lapse e) := by
  rw [s.lapse_clearing e hc]
  exact .refl s

theorem lapseIfLevel (hc : s.clearing = true) (e : EntryNo) : Discards s (s.lapseIfLevel e) := by
  unfold State.lapseIfLevel
  split
  · exact .refl s
  · exact .lapse hc e

theorem foldl {ι : Type} {σ : State → ι → State}
    (hσ : ∀ u i, u.clearing = true → Discards u (σ u i)) (items : List ι) (hc : s.clearing = true) :
    Discards s (items.foldl σ s) := by
  induction items generalizing s with
  | nil => exact .refl s
  | cons i items ih => exact (hσ s i hc).trans (ih ((hσ s i hc).frame.clearing.trans hc))

theorem scanFinding (hc : s.clearing = true) (n : StringNo) (k : SlotNo) (active was : Bool) :
    Discards s (s.scanFinding n k active was) := by
  unfold State.scanFinding State.scanUnmarked
  split
  · split <;> split
    · exact .occurrence hc _
    · exact .refl s
    · exact .occurrence hc _
    · exact .lapse hc _
  · split
    · split
      · exact .report s _ _
      · exact .refl s
    · split
      · exact .refl s
      · exact .foldl (fun u e hu => .lapseIfLevel hu e) _ hc

end Discards

theorem frame_lapseIfLevel (u : State) (e : EntryNo) : FindingFrame u (u.lapseIfLevel e) := by
  unfold State.lapseIfLevel
  split
  · exact .refl u
  · exact .lapse u e

theorem frame_scanFinding (s : State) (n : StringNo) (k : SlotNo) (active was : Bool) :
    FindingFrame s (s.scanFinding n k active was) := by
  unfold State.scanFinding State.scanUnmarked
  split
  · split <;> split
    · exact .occurrence s _
    · exact .refl s
    · exact .occurrence s _
    · exact .lapse s _
  · split
    · split
      · exact .report s _ _
      · exact .refl s
    · split
      · exact .refl s
      · exact .foldl frame_lapseIfLevel _ s

/-! ### Reports to STRAY -/

/-- From s to u row STRAY took reports with these culprits, in their order, and no other row changed. -/
structure Strays (s u : State) (culprits : List Culprit) : Prop where
  others : ∀ r, r ≠ .stray → u.cond r = s.cond r
  stray : u.cond .stray = culprits.foldl Condition.reported (s.cond .stray)

theorem count_reported_ne_zero (c : Condition) (w : Culprit) : (c.reported w).count ≠ 0#8 := by
  intro h
  have hcount : (c.reported w).count.toNat = min 255 (c.count.toNat + 1) := count_reported c w
  rw [h, BitVec.toNat_ofNat] at hcount
  omega

/-- A row after one or more reports (R165). -/
theorem foldl_reported (c : Condition) (w : Culprit) (ws : List Culprit) :
    let c' := (w :: ws).foldl Condition.reported c
    c'.latched = true ∧ c'.enabled = c.enabled ∧
      c'.count.toNat = min 255 (c.count.toNat + (ws.length + 1)) ∧
      c'.culprit = if c.count = 0#8 then some w else c.culprit := by
  induction ws generalizing c w with
  | nil => exact ⟨rfl, rfl, count_reported c w, rfl⟩
  | cons w' ws ih =>
    obtain ⟨hlatched, henabled, hcount, hculprit⟩ := ih (c.reported w) w'
    rw [if_neg (count_reported_ne_zero c w)] at hculprit
    refine ⟨hlatched, henabled, ?_, hculprit⟩
    rw [List.foldl_cons, hcount, count_reported, List.length_cons]
    omega

namespace Strays

variable {s u v : State} {ws ws' : List Culprit}

theorem of_conditions (h : u.conditions = s.conditions) : Strays s u [] := by
  have hcond : ∀ r, u.cond r = s.cond r := fun r => by rw [State.cond, State.cond, h]
  exact ⟨fun r _ => hcond r, hcond .stray⟩

theorem report (s : State) (w : Culprit) : Strays s (s.report .stray w) [w] :=
  ⟨fun r hr => s.cond_report_ne .stray w r hr.symm, s.cond_report_same .stray w⟩

theorem trans (h : Strays s u ws) (h' : Strays u v ws') : Strays s v (ws ++ ws') where
  others r hr := (h'.others r hr).trans (h.others r hr)
  stray := by rw [h'.stray, h.stray, List.foldl_append]

theorem foldl {ι : Type} {σ : State → ι → State} {culprits : ι → List Culprit}
    (hσ : ∀ u i, SameKeys s u → SameKeys u (σ u i) ∧ Strays u (σ u i) (culprits i))
    (items : List ι) (hkeys : SameKeys s u) :
    Strays u (items.foldl σ u) (items.flatMap culprits) := by
  induction items generalizing u with
  | nil => exact .of_conditions rfl
  | cons i items ih =>
    obtain ⟨hsame, hstrays⟩ := hσ u i hkeys
    exact hstrays.trans (ih (hkeys.trans hsame))

theorem straysReported (h : Strays s u ws) : StraysReported s u ws := by
  refine ⟨h.others, fun hnone => ?_, fun w rest hws => ?_⟩
  · rw [h.stray, hnone, List.foldl_nil]
  · obtain ⟨hlatched, henabled, hcount, hculprit⟩ := foldl_reported (s.cond .stray) w rest
    rw [h.stray, hws]
    refine ⟨hlatched, henabled, hcount, ?_⟩
    rw [hculprit]
    simp only [← BitVec.toNat_inj, BitVec.toNat_ofNat, Nat.zero_mod]

end Strays

theorem conditions_occurrence (s : State) (e : EntryNo) :
    (s.occurrence e).conditions = s.conditions := by
  rw [State.occurrence_frame]

theorem conditions_lapse (s : State) (e : EntryNo) : (s.lapse e).conditions = s.conditions := by
  rw [State.lapse_frame]

theorem conditions_lapseIfLevel (s : State) (e : EntryNo) :
    (s.lapseIfLevel e).conditions = s.conditions := by
  unfold State.lapseIfLevel
  split
  · rfl
  · exact conditions_lapse s e

theorem conditions_scanUnmarked (s : State) (active was : Bool) (e : EntryNo) :
    (s.scanUnmarked active was e).conditions = s.conditions := by
  unfold State.scanUnmarked
  split <;> split
  · exact conditions_occurrence s e
  · rfl
  · exact conditions_occurrence s e
  · exact conditions_lapse s e

theorem conditions_foldl_lapseIfLevel (es : List EntryNo) (s : State) :
    (es.foldl State.lapseIfLevel s).conditions = s.conditions := by
  induction es generalizing s with
  | nil => rfl
  | cons e es ih => exact (ih (s.lapseIfLevel e)).trans (conditions_lapseIfLevel s e)

/-- Slot k rose in a scan and no bound entry names it (R116). -/
def straySlot (s : State) (n : StringNo) (samples : BitVec 54) (history : BitVec 24) (k : SlotNo) :
    Bool :=
  slotActive samples k.val && !history.getLsbD k.val &&
    ((s.findKey (.wire n k none)).isNone && (s.markedAt n k).isEmpty)

theorem straySlot_iff {s : State} {n : StringNo} {samples : BitVec 54} {history : BitVec 24}
    {k : SlotNo} :
    straySlot s n samples history k = true ↔
      samples.getLsbD (5 + 2 * k.val) = true ∧ history.getLsbD k.val = false ∧
        ¬ NamedWithMark s n k ∧ ∀ e, s.hasKey (.wire n k none) e = false := by
  rw [← State.findKey_eq_none, ← markedAt_eq_nil]
  simp only [straySlot, slotActive, Bool.and_eq_true, Bool.not_eq_true', Option.isNone_iff_eq_none,
    List.isEmpty_iff]
  tauto

theorem strays_scanFinding {s u : State} (hkeys : SameKeys s u) (n : StringNo)
    (samples : BitVec 54) (history : BitVec 24) (k : SlotNo) :
    Strays u (u.scanFinding n k (slotActive samples k.val) (history.getLsbD k.val))
      (if straySlot s n samples history k then [.slot n k] else []) := by
  unfold State.scanFinding straySlot
  rw [hkeys.findKey, hkeys.markedAt]
  cases s.findKey (.wire n k none) with
  | some e =>
    simp only [Option.isNone_some, Bool.false_and, Bool.and_false, Bool.false_eq_true, if_false]
    exact .of_conditions (conditions_scanUnmarked u _ _ e)
  | none =>
    cases s.markedAt n k with
    | nil =>
      simp only [Option.isNone_none, List.isEmpty_nil, Bool.and_true]
      split
      · exact .report u _
      · exact .of_conditions rfl
    | cons e es =>
      simp only [List.isEmpty_cons, Bool.and_false, Bool.false_eq_true, if_false]
      split
      · exact .of_conditions rfl
      · exact .of_conditions (conditions_foldl_lapseIfLevel (e :: es) u)

theorem flatMap_ite {α β : Type} (p : α → Bool) (f : α → β) (l : List α) :
    (l.flatMap fun a => if p a then [f a] else []) = (l.filter p).map f := by
  induction l with
  | nil => rfl
  | cons a l ih =>
    rw [List.flatMap_cons, ih, List.filter_cons]
    split <;> rfl

theorem strays_scanFindings (s : State) (n : StringNo) (samples : BitVec 54) (history : BitVec 24) :
    Strays s (s.scanFindings n samples history (List.finRange 24))
      (((List.finRange 24).filter (straySlot s n samples history)).map fun k => .slot n k) := by
  have hfold := Strays.foldl (s := s)
    (σ := fun u k => u.scanFinding n k (slotActive samples k.val) (history.getLsbD k.val))
    (culprits := fun k => if straySlot s n samples history k then [.slot n k] else [])
    (fun u k hkeys =>
      ⟨sameKeys_scanFinding u n k _ _, strays_scanFinding hkeys n samples history k⟩)
    (List.finRange 24) (.refl s)
  rw [flatMap_ite] at hfold
  exact hfold

/-! ### The event as a whole -/

/-- The engine of string n at the end of a good scan. -/
def scannedEngine (s : State) (n : StringNo) (samples : BitVec 54) : StringEngine :=
  ((s.string n).afterGoodScan (s.requestsRollCall n) samples).afterCycle
    (decide (scanActivity samples = 0#24)) 54

/-- A good scan's end event is its findings, and the engine brought up to date (R111). -/
theorem exec_scanEnd_good {s : State} {n : StringNo} {samples : BitVec 54}
    (hstate : (s.string n).state = .running) (hcycle : (s.string n).cycle = some .scan)
    (hgood : ¬ ScanFaulted samples) :
    exec (.scanEnd n samples) s =
      .next
        ((s.scanFindings n samples (s.string n).history (List.finRange 24)).setString n
          (scannedEngine s n samples)) := by
  have hfaulted : scanFaulted samples = false :=
    Bool.eq_false_iff.mpr fun h => hgood (scanFaulted_iff.mp h)
  have hend : s.endScan n samples =
      (s.scanFindings n samples (s.string n).history (List.finRange 24)).setString n
        (scannedEngine s n samples) := by
    rw [State.endScan, hfaulted, if_neg Bool.false_ne_true, State.goodScan_eq,
      State.updateString_updateString, State.updateString, State.string_scanFindings,
      Bool.not_false, Bool.true_and, beq_eq_decide]
    exact congrArg (State.setString _ n) rfl
  simp only [exec, execScanEnd, hstate, hcycle, and_self, if_true, hend]

theorem frame_setString {s u : State} (h : FindingFrame s u) (n : StringNo) (g : StringEngine) :
    u.setString n g =
      { s with
        entries := (u.setString n g).entries, queues := (u.setString n g).queues
        strings := (u.setString n g).strings, conditions := (u.setString n g).conditions } := by
  rw [h]
  rfl

/-- A slot that marked entries name has no unmarked one, so its roll call is requested (R8, R114). -/
theorem requestsRollCall_iff {s : State} (hs : KeysDistinct s) {n : StringNo} {k : SlotNo} :
    s.requestsRollCall n k = true ↔ NamedWithMark s n k := by
  have hempty : (s.markedAt n k).isEmpty = false ↔ NamedWithMark s n k := by
    rw [← Bool.not_eq_true, List.isEmpty_iff, markedAt_eq_nil, not_not]
  rw [State.requestsRollCall, Bool.and_eq_true, Bool.not_eq_true', hempty]
  refine ⟨fun ⟨_, h⟩ => h, fun h => ⟨?_, h⟩⟩
  rw [Option.isNone_iff_eq_none]
  obtain ⟨e, b, m, hb, hkey⟩ := h
  cases hfind : s.findKey (.wire n k none) with
  | none => rfl
  | some e' =>
    obtain ⟨b', hb', hkey'⟩ := entry_of_findKey hfind
    obtain rfl : e = e' := eq_of_clash hs hb hb' (by simp [hkey, hkey', Key.clash])
    obtain rfl := Option.some.inj (hb.symm.trans hb')
    rw [hkey] at hkey'
    cases hkey'

theorem frame_scanFindings (s : State) (n : StringNo) (samples : BitVec 54) (history : BitVec 24)
    (slots : List SlotNo) : FindingFrame s (s.scanFindings n samples history slots) :=
  .foldl (fun u k => frame_scanFinding u n k _ _) slots s

theorem discards_scanFindings {s : State} (hc : s.clearing = true) (n : StringNo)
    (samples : BitVec 54) (history : BitVec 24) (slots : List SlotNo) :
    Discards s (s.scanFindings n samples history slots) :=
  .foldl (fun _ k hu => .scanFinding hu n k _ _) slots hc

/-- Settles O48: the findings in the directory, and what the samples make of the engine. -/
theorem goodScanActsOnEntriesAndEngine : Obligations.GoodScanActsOnEntriesAndEngine := by
  intro s n samples hkeys hstate hcycle hgood
  have hexec := exec_scanEnd_good hstate hcycle hgood
  have hframe := frame_scanFindings s n samples (s.string n).history (List.finRange 24)
  have hdiscards : s.clearing = true → Discards s _ := fun hc =>
    discards_scanFindings hc n samples (s.string n).history (List.finRange 24)
  have hentries : s.clearing = false → ∀ e, _ = _ := fun hc =>
    entry_scanFindings n samples (s.string n).history hkeys hc
  have hstrings : ∀ n', _ = s.string n' := fun n' =>
    s.string_scanFindings n n' samples (s.string n).history (List.finRange 24)
  generalize s.scanFindings n samples (s.string n).history (List.finRange 24) = u at *
  refine ⟨_, scanActivity samples,
    ((s.string n).scanned (fun k => slotActive samples k.val) (s.requestsRollCall n)
      (List.finRange 24)).marks,
    (List.finRange 24).filter fun k =>
      slotActive samples k.val && s.requestsRollCall n k && decide (k ∉ (s.string n).rollCalls),
    hexec, frame_setString hframe n _, fun hc => ⟨(hdiscards hc).entries, (hdiscards hc).queues⟩,
    hentries, fun n' hne => ?strings, scanActivity_getLsbD samples, ?marks, ?requested,
    (List.pairwise_lt_finRange 24).filter _, ?engine⟩
  case strings => rw [State.string_setString, if_neg hne.symm, hstrings]
  case marks =>
    intro k
    simp only [StringEngine.scanned, Fin.getElem_fin, Vector.getElem_ofFn, List.mem_finRange,
      true_and, slotActive]
    cases samples.getLsbD (5 + 2 * k.val) <;> rfl
  case requested =>
    intro k
    simp [slotActive, requestsRollCall_iff hkeys, and_assoc]
  case engine =>
    rw [State.string_setString, if_pos rfl]
    rfl

/-- A strictly ascending list is known by its members. -/
theorem eq_filter_finRange {m : Nat} {l : List (Fin m)} {p : Fin m → Bool} (hl : l.Pairwise (· < ·))
    (hp : ∀ i, i ∈ l ↔ p i = true) : l = (List.finRange m).filter p := by
  have hfilter : ((List.finRange m).filter p).Pairwise (· < ·) :=
    (List.pairwise_lt_finRange m).filter _
  refine List.Perm.eq_of_pairwise (fun _ _ _ _ h h' => absurd h' h.asymm) hl hfilter ?_
  refine (List.perm_ext_iff_of_nodup (hl.imp fun h => h.ne) (hfilter.imp fun h => h.ne)).mpr ?_
  intro i
  rw [hp, List.mem_filter]
  exact ⟨fun h => ⟨List.mem_finRange i, h⟩, fun h => h.2⟩

/-- Settles O49: the queues in the order of the slots' findings, and the reports in that order. -/
theorem goodScanPlacesAndReportsInSlotOrder : Obligations.GoodScanPlacesAndReportsInSlotOrder := by
  intro s s' n samples hkeys hstate hcycle hgood hexec
  rw [exec_scanEnd_good hstate hcycle hgood] at hexec
  have hqueue := fun hc hqueues hentries k =>
    queue_scanFindings (s := s) n samples (s.string n).history hkeys hc hqueues hentries k
  have hstrays := (strays_scanFindings s n samples (s.string n).history).straysReported
  generalize s.scanFindings n samples (s.string n).history (List.finRange 24) = u at *
  obtain rfl := Host.Outcome.next.inj hexec
  refine ⟨fun hc hqueues hentries k _ => hqueue hc hqueues hentries k, ?_⟩
  rintro culprits ⟨slots, hslots, rfl, hmem⟩
  rw [eq_filter_finRange hslots fun k => (hmem k).trans straySlot_iff.symm]
  exact hstrays

end Sys2Proof.Claims
end

section
/-! PROOFS. The end event of a good roll call (O50, O51). -/

namespace Sys2Proof.Claims

open Sys2Proof.Machine Sys2Proof.Safety

/-! ### What a good roll call makes of a record -/

section RollCallEffect

variable {n : StringNo} {k : SlotNo} {m : Mark} {samples : BitVec 27} {history : BitVec 8} {b : Entry}

theorem key_rollCallEffect (b : Entry) : (rollCallEffect n k samples history b).key = b.key := by
  unfold rollCallEffect
  split
  · rfl
  · rfl
  · split
    · rfl
    · split
      · split <;> simp only [key_afterOccurrence]
      · split <;> simp only [key_afterOccurrence, key_afterLapse]

theorem rollCallEffect_edge (hkey : b.key = .wire n k (some m)) (hs : b.sense = .edge) :
    rollCallEffect n k samples history b =
      if markAnswered samples m.val && !history.getLsbD m.val then afterOccurrence b else b := by
  simp only [rollCallEffect, hkey, hs, ne_eq, not_true_eq_false, or_self, if_false]
  rfl

theorem rollCallEffect_level (hkey : b.key = .wire n k (some m)) (hs : b.sense = .level) :
    rollCallEffect n k samples history b =
      if markAnswered samples m.val then afterOccurrence b else afterLapse b := by
  simp only [rollCallEffect, hkey, hs, ne_eq, not_true_eq_false, or_self, if_false]
  rfl

theorem rollCallEffect_other (hkey : ∀ m, b.key ≠ .wire n k (some m)) :
    rollCallEffect n k samples history b = b := by
  unfold rollCallEffect
  cases hk : b.key with
  | posted c => rfl
  | wire n' k' mark =>
    cases mark with
    | none => rfl
    | some m =>
      have hne : n' ≠ n ∨ k' ≠ k := by
        by_contra hsame
        rw [not_or, not_not, not_not] at hsame
        obtain ⟨rfl, rfl⟩ := hsame
        exact hkey m hk
      exact if_pos hne

end RollCallEffect

/-! ### The finding of a mark -/

section RollCallMark

variable {n : StringNo} {k : SlotNo} {samples : BitVec 27} {history : BitVec 8}

theorem frame_rollCallMark (u : State) (m : Mark) :
    FindingFrame u (u.rollCallMark n k history samples m) := by
  unfold State.rollCallMark
  split
  · split
    · exact .report u _ _
    · exact .refl u
  · split
    · split
      · split
        · exact .refl u
        · exact .occurrence u _
      · exact .occurrence u _
    · exact frame_lapseIfLevel u _

theorem sameKeys_rollCallMark (u : State) (m : Mark) :
    SameKeys u (u.rollCallMark n k history samples m) := by
  unfold State.rollCallMark
  split
  · split
    · exact .of_entries rfl
    · exact .refl u
  · split
    · split
      · split
        · exact .refl u
        · exact sameKeys_occurrence u _
      · exact sameKeys_occurrence u _
    · exact sameKeys_lapseIfLevel u _

theorem discards_rollCallMark {u : State} (hc : u.clearing = true) (m : Mark) :
    Discards u (u.rollCallMark n k history samples m) := by
  unfold State.rollCallMark
  split
  · split
    · exact .report u _ _
    · exact .refl u
  · split
    · split
      · split
        · exact .refl u
        · exact .occurrence hc _
      · exact .occurrence hc _
    · exact .lapseIfLevel hc _

theorem conditions_rollCallMark_bound {u : State} {m : Mark} {e : EntryNo}
    (hfind : u.findKey (.wire n k (some m)) = some e) :
    (u.rollCallMark n k history samples m).conditions = u.conditions := by
  simp only [State.rollCallMark, hfind]
  split
  · split
    · split
      · rfl
      · exact conditions_occurrence u e
    · exact conditions_occurrence u e
  · exact conditions_lapseIfLevel u e

theorem settles_rollCallMark {u : State} {m : Mark} {e : EntryNo} {b : Entry}
    (hc : u.clearing = false) (hfind : u.findKey (.wire n k (some m)) = some e)
    (hb : u.entry e = some b) (hkey : b.key = .wire n k (some m)) :
    Settles (rollCallEffect n k samples history) e u (u.rollCallMark n k history samples m) := by
  simp only [State.rollCallMark, State.lapseIfLevel, hfind, senseAt_of_entry hb]
  cases hs : b.sense with
  | edge =>
    have heffect := rollCallEffect_edge (samples := samples) (history := history) hkey hs
    cases hanswered : markAnswered samples m.val with
    | false => exact .nothing hb (by rw [heffect, hanswered, Bool.false_and, if_neg Bool.false_ne_true])
    | true =>
      rw [hanswered, Bool.true_and] at heffect
      cases hbefore : history.getLsbD m.val with
      | false => exact .occurrence hc hb (by rw [heffect, hbefore]; rfl)
      | true => exact .nothing hb (by rw [heffect, hbefore]; rfl)
  | level =>
    have heffect := rollCallEffect_level (samples := samples) (history := history) hkey hs
    cases hanswered : markAnswered samples m.val with
    | false => exact .lapse hc hb (by rw [heffect, hanswered, if_neg Bool.false_ne_true])
    | true => exact .occurrence hc hb (by rw [heffect, hanswered, if_pos rfl])

/-- The entry that mark m of the slot names, if there is one. -/
def markNames (s : State) (n : StringNo) (k : SlotNo) (m : Mark) : List EntryNo :=
  (s.findKey (.wire n k (some m))).toList

theorem entry_of_mem_markNames {s : State} {m : Mark} {e : EntryNo} (h : e ∈ markNames s n k m) :
    ∃ b, s.entry e = some b ∧ b.key = .wire n k (some m) :=
  entry_of_findKey (Option.mem_toList.mp h)

theorem mem_markNames {s : State} (hs : KeysDistinct s) {m : Mark} {e : EntryNo} {b : Entry}
    (hb : s.entry e = some b) (hkey : b.key = .wire n k (some m)) : e ∈ markNames s n k m :=
  Option.mem_toList.mpr (hkey ▸ findKey_of_entry hs hb)

theorem markNames_apart {s : State} {m m' : Mark} (hne : m ≠ m') :
    ∀ e ∈ markNames s n k m', e ∉ markNames s n k m := by
  intro e he' he
  obtain ⟨b, hb, hkey⟩ := entry_of_mem_markNames he
  obtain ⟨b', hb', hkey'⟩ := entry_of_mem_markNames he'
  obtain rfl := Option.some.inj (hb.symm.trans hb')
  rw [hkey] at hkey'
  cases hkey'
  exact hne rfl

theorem settled_rollCallMark {s u : State} {L : List EntryNo} {m : Mark} (hc : s.clearing = false)
    (h : Settled (rollCallEffect n k samples history) s L u)
    (hfresh : ∀ e ∈ markNames s n k m, e ∉ L) :
    Settled (rollCallEffect n k samples history) s (L ++ markNames s n k m)
      (u.rollCallMark n k history samples m) := by
  have hfind : u.findKey (.wire n k (some m)) = s.findKey (.wire n k (some m)) :=
    (h.sameKeys key_rollCallEffect).findKey _
  unfold markNames at hfresh ⊢
  cases hnamed : s.findKey (.wire n k (some m)) with
  | none =>
    rw [hnamed] at hfind
    simp only [State.rollCallMark, hfind, Option.toList_none, List.append_nil]
    split
    · exact h.report _ _
    · exact h
  | some e =>
    rw [hnamed] at hfind
    obtain ⟨b, hb, hkey⟩ := entry_of_findKey hnamed
    have he : e ∉ L := hfresh e (by rw [hnamed]; exact Option.mem_toList.mpr rfl)
    exact h.step hb he
      (settles_rollCallMark (h.frame.clearing.trans hc) hfind (h.entry_unvisited he ▸ hb) hkey)

/-- Mark m answered and no bound entry has its key (R130). -/
def strayMark (s : State) (n : StringNo) (k : SlotNo) (samples : BitVec 27) (m : Mark) : Bool :=
  markAnswered samples m.val && (s.findKey (.wire n k (some m))).isNone

theorem strayMark_iff {s : State} {m : Mark} :
    strayMark s n k samples m = true ↔
      samples.getLsbD (10 + 2 * m.val) = true ∧ ∀ e, s.hasKey (.wire n k (some m)) e = false := by
  rw [← State.findKey_eq_none, strayMark, Bool.and_eq_true, Option.isNone_iff_eq_none, markAnswered]

theorem strays_rollCallMark {s u : State} (hkeys : SameKeys s u) (m : Mark) :
    Strays u (u.rollCallMark n k history samples m)
      (if strayMark s n k samples m then [.mark n k m] else []) := by
  have hfind : u.findKey (.wire n k (some m)) = s.findKey (.wire n k (some m)) := hkeys.findKey _
  unfold strayMark
  rw [← hfind]
  cases hnamed : u.findKey (.wire n k (some m)) with
  | some e =>
    simp only [Option.isNone_some, Bool.and_false, Bool.false_eq_true, if_false]
    exact .of_conditions (conditions_rollCallMark_bound hnamed)
  | none =>
    simp only [State.rollCallMark, hnamed, Option.isNone_none, Bool.and_true]
    split
    · exact .report u _
    · exact .of_conditions rfl

end RollCallMark

/-! ### The findings of the roll call -/

/-- The findings of a good roll call's marks, without the SILENT report. -/
def marksFound (s : State) (n : StringNo) (k : SlotNo) (samples : BitVec 27) : State :=
  (List.finRange 8).foldl (fun u m => u.rollCallMark n k ((s.string n).marks[k]) samples m) s

section RollCall

variable {s : State} (n : StringNo) (k : SlotNo) (samples : BitVec 27)

theorem frame_marksFound : FindingFrame s (marksFound s n k samples) :=
  .foldl (fun u m => frame_rollCallMark u m) (List.finRange 8) s

theorem discards_marksFound (hc : s.clearing = true) : Discards s (marksFound s n k samples) :=
  .foldl (fun _ m hu => discards_rollCallMark hu m) (List.finRange 8) hc

theorem settled_marksFound (hc : s.clearing = false) :
    Settled (rollCallEffect n k samples (s.string n).marks[k]) s
      ((List.finRange 8).flatMap (markNames s n k)) (marksFound s n k samples) := by
  unfold marksFound
  generalize (s.string n).marks[k] = history
  have hfold := (Settled.start (rollCallEffect n k samples history) s).foldl
    (names := markNames s n k) (σ := fun u m => u.rollCallMark n k history samples m)
    (fun m L u h hfresh => settled_rollCallMark hc h hfresh) (List.finRange 8)
    ((List.nodup_finRange 8).imp markNames_apart) (fun _ _ _ _ => List.not_mem_nil)
  rwa [List.nil_append] at hfold

theorem rollCallEffect_unvisited (history : BitVec 8) (hs : KeysDistinct s) {e : EntryNo} {b : Entry}
    (he : e ∉ (List.finRange 8).flatMap (markNames s n k)) (hb : s.entry e = some b) :
    rollCallEffect n k samples history b = b :=
  rollCallEffect_other fun m hkey =>
    he (List.mem_flatMap.mpr ⟨m, List.mem_finRange m, mem_markNames hs hb hkey⟩)

theorem entry_marksFound (hs : KeysDistinct s) (hc : s.clearing = false) (e : EntryNo) :
    (marksFound s n k samples).entry e =
      (s.entry e).map (rollCallEffect n k samples (s.string n).marks[k]) :=
  (settled_marksFound n k samples hc).entry_eq
    (fun _ _ he hb => rollCallEffect_unvisited n k samples _ hs he hb) e

theorem queue_marksFound (hs : KeysDistinct s) (hc : s.clearing = false) (hqueues : QueuesMatch s)
    (hentries : EntriesOk s) (j : Level) :
    (marksFound s n k samples).queue j =
      queueAfter s (rollCallEffect n k samples (s.string n).marks[k])
        ((List.finRange 8).map fun m => .wire n k (some m)) j :=
  (settled_marksFound n k samples hc).queue_eq
    (fun _ _ he hb => rollCallEffect_unvisited n k samples _ hs he hb)
    (fun m _ => raisedFor_eq hs _ j (.wire n k (some m))) hqueues hentries

theorem strays_marksFound :
    Strays s (marksFound s n k samples)
      (((List.finRange 8).filter (strayMark s n k samples)).map fun m => .mark n k m) := by
  have hfold := Strays.foldl (s := s)
    (σ := fun u m => u.rollCallMark n k (s.string n).marks[k] samples m)
    (culprits := fun m => if strayMark s n k samples m then [.mark n k m] else [])
    (fun u m hkeys => ⟨sameKeys_rollCallMark u m, strays_rollCallMark hkeys m⟩)
    (List.finRange 8) (.refl s)
  rw [flatMap_ite] at hfold
  exact hfold

/-! ### The event as a whole -/

theorem answeredMarks_getLsbD (m : Fin 8) :
    (answeredMarks samples).getLsbD m.val = markAnswered samples m.val := by
  rw [answeredMarks, getLsbD_bitsOf, decide_eq_true m.isLt, Bool.true_and]

theorem answeredMarks_eq_zero :
    answeredMarks samples = 0#8 ↔ ∀ m : Fin 8, samples.getLsbD (10 + 2 * m.val) = false := by
  constructor
  · intro h m
    have hm := answeredMarks_getLsbD samples m
    rw [h, BitVec.getLsbD_zero] at hm
    exact hm.symm
  · intro h
    refine BitVec.eq_of_getLsbD_eq fun i hi => ?_
    rw [BitVec.getLsbD_zero, answeredMarks_getLsbD samples ⟨i, hi⟩]
    exact h ⟨i, hi⟩

/-- A roll call's own report: SILENT when no mark answered (R131). -/
def silentReport (u : State) (n : StringNo) (k : SlotNo) (samples : BitVec 27) : State :=
  if answeredMarks samples = 0#8 then u.report .silent (.slot n k) else u

/-- The engine of string n at the end of a good roll call of slot k. -/
def calledEngine (g : StringEngine) (k : SlotNo) (samples : BitVec 27) : StringEngine :=
  ({ g with
    faults := 0, marks := g.marks.set k.val (answeredMarks samples) k.isLt
    rollCalls := if g.rollCalls.head? = some k then g.rollCalls.tail else g.rollCalls }
    : StringEngine).afterCycle false 27

theorem rollCallFindings_eq (s : State) :
    s.rollCallFindings n k samples = silentReport (marksFound s n k samples) n k samples := rfl

theorem exec_rollCallEnd_good (hstate : (s.string n).state = .running)
    (hcycle : (s.string n).cycle = some (.rollCall k)) (hgood : ¬ RollCallFaulted k samples) :
    exec (.rollCallEnd n samples) s =
      .next
        ((silentReport (marksFound s n k samples) n k samples).setString n
          (calledEngine (s.string n) k samples)) := by
  have hfaulted : rollCallFaulted k samples = false :=
    Bool.eq_false_iff.mpr fun h => hgood (rollCallFaulted_iff.mp h)
  have hstring : (s.rollCallFindings n k samples).string n = s.string n := by
    rw [State.string, State.strings_rollCallFindings, State.string]
  have hend : s.endRollCall n k samples =
      (s.rollCallFindings n k samples).setString n (calledEngine (s.string n) k samples) := by
    rw [State.endRollCall, hfaulted, if_neg Bool.false_ne_true, State.goodRollCall_eq,
      State.updateString_updateString, State.updateString, hstring, dropRollCall_eq]
    exact congrArg (State.setString _ n) rfl
  simp only [exec, execRollCallEnd, hstate, hcycle, hend, rollCallFindings_eq]

theorem discards_silentReport (u : State) : Discards u (silentReport u n k samples) := by
  unfold silentReport
  split
  · exact .report u _ _
  · exact .refl u

end RollCall

/-- Settles O50: the findings in the directory, and what the answers make of the engine. -/
theorem goodRollCallActsOnEntriesAndEngine : Obligations.GoodRollCallActsOnEntriesAndEngine := by
  intro s n k samples hkeys hstate hcycle hgood
  have hexec := exec_rollCallEnd_good n k samples hstate hcycle hgood
  have hfound : FindingFrame s (marksFound s n k samples) := frame_marksFound n k samples
  have hclearing : s.clearing = true → Discards s (marksFound s n k samples) :=
    discards_marksFound n k samples
  have hentries := entry_marksFound n k samples hkeys
  have hqueue := fun hc hqueues hentries => queue_marksFound n k samples hkeys hc hqueues hentries
  generalize marksFound s n k samples = u at *
  have hsilent := discards_silentReport n k samples u
  generalize silentReport u n k samples = v at *
  have hframe : FindingFrame s v := hfound.trans hsilent.frame
  have hentry : ∀ e, v.entry e = u.entry e := fun e => by rw [State.entry, State.entry, hsilent.entries]
  have hplace : ∀ j, v.queue j = u.queue j := fun j => by rw [State.queue, State.queue, hsilent.queues]
  have hstrings : ∀ n', v.string n' = s.string n' := fun n' => by rw [hframe]; rfl
  refine ⟨_, answeredMarks samples, hexec, frame_setString hframe n _, fun hc => ?clearing,
    fun hc e => (hentry e).trans (hentries hc e),
    fun hc hqueues hok j _ => (hplace j).trans (hqueue hc hqueues hok j), fun n' hne => ?strings,
    answeredMarks_getLsbD samples, ?engine⟩
  case clearing =>
    have hdiscards := (hclearing hc).trans hsilent
    exact ⟨hdiscards.entries, hdiscards.queues⟩
  case strings => rw [State.string_setString, if_neg hne.symm, hstrings]
  case engine =>
    rw [State.string_setString, if_pos rfl]
    rfl

/-- Settles O51: the marks that no entry names, or SILENT. -/
theorem goodRollCallReports : Obligations.GoodRollCallReports := by
  intro s s' n k samples hstate hcycle hgood hexec
  rw [exec_rollCallEnd_good n k samples hstate hcycle hgood] at hexec
  have hstrays : Strays s (marksFound s n k samples) _ := strays_marksFound n k samples
  generalize marksFound s n k samples = u at *
  have hcond : ∀ r, s'.cond r = (silentReport u n k samples).cond r := fun r => by
    obtain rfl := Host.Outcome.next.inj hexec
    rfl
  refine ⟨fun hnone => ?silent, fun hsome marks hmarks hmem => ?strays⟩
  case silent =>
    have hfilter : (List.finRange 8).filter (strayMark s n k samples) = [] :=
      List.filter_eq_nil_iff.mpr fun m _ hm => by
        rw [strayMark_iff, hnone m] at hm
        exact Bool.false_ne_true hm.1
    rw [hfilter] at hstrays
    have hsame : ∀ r, u.cond r = s.cond r := fun r => by
      by_cases hr : r = .stray
      · rw [hr]
        exact hstrays.stray
      · exact hstrays.others r hr
    have hreport := reportedOnce_report u .silent (.slot n k)
    simp only [silentReport, if_pos ((answeredMarks_eq_zero samples).mpr hnone)] at hcond
    simpa only [ReportedOnce, hcond, hsame] using hreport
  case strays =>
    have hanswered : answeredMarks samples ≠ 0#8 := fun hzero => by
      obtain ⟨m, hm⟩ := hsome
      rw [(answeredMarks_eq_zero samples).mp hzero m] at hm
      cases hm
    have hreported := hstrays.straysReported
    rw [← eq_filter_finRange hmarks fun m => (hmem m).trans strayMark_iff.symm] at hreported
    simp only [silentReport, if_neg hanswered] at hcond
    simpa only [StraysReported, hcond] using hreported

end Sys2Proof.Claims
end

section
/-! PROOFS. The reads of the words of both windows, and the counts of SUMMARY (O55). -/

namespace Sys2Proof.Claims

open Sys2Proof.Machine Sys2Proof.Machine.Bits Sys2Proof.Safety

/-! ### The words at their addresses -/

theorem wordAt_takerAddress (t : Taker) :
    ∀ j < 16, wordAt (takerAddress t j) = .taker t (takerWordAt j) := by
  revert t
  decide

theorem wordAt_mgmtAddress : ∀ j < 32, wordAt (mgmtAddress j) = mgmtWordAt j := by
  decide

theorem mgmtWordAt_cmd (k : Fin 8) : mgmtWordAt k.val = .cmd k := by
  revert k
  decide

theorem mgmtWordAt_res (k : Fin 16) : mgmtWordAt (16 + k.val) = .res k := by
  revert k
  decide

theorem cmdLayout_eq_cmdAssigned (k : Fin 8) : fieldsBits cmdLayout[k] = cmdAssigned[k] := by
  revert k
  decide

theorem takerWordAt_unused {j : Nat} (h : 9 ≤ j) : takerWordAt j = .unused := by
  unfold takerWordAt
  repeat rw [if_neg (by omega)]

section Released

variable {s : State} (hr : s.inReset = false) (t : Taker)

include hr

theorem readWord_claim : s.readWord (takerAddress t 0) = s.claimWord (s.claimAnswer t) := by
  rw [State.readWord, hr, wordAt_takerAddress t 0 (by decide)]
  rfl

theorem readWord_peek : s.readWord (takerAddress t 1) = s.claimWord (s.claimAnswer t) := by
  rw [State.readWord, hr, wordAt_takerAddress t 1 (by decide)]
  rfl

theorem readWord_done : s.readWord (takerAddress t 2) = (s.port t).lastDone := by
  rw [State.readWord, hr, wordAt_takerAddress t 2 (by decide)]
  rfl

theorem readWord_yield : s.readWord (takerAddress t 3) = (s.port t).lastYield := by
  rw [State.readWord, hr, wordAt_takerAddress t 3 (by decide)]
  rfl

theorem readWord_post : s.readWord (takerAddress t 5) = (s.port t).lastPost := by
  rw [State.readWord, hr, wordAt_takerAddress t 5 (by decide)]
  rfl

theorem readWord_treset : s.readWord (takerAddress t 6) = (s.port t).lastTreset := by
  rw [State.readWord, hr, wordAt_takerAddress t 6 (by decide)]
  rfl

theorem readWord_stack : s.readWord (takerAddress t 7) = s.stackWord t := by
  rw [State.readWord, hr, wordAt_takerAddress t 7 (by decide)]
  rfl

theorem readWord_answer : s.readWord (takerAddress t 8) = s.answerWord t := by
  rw [State.readWord, hr, wordAt_takerAddress t 8 (by decide)]
  rfl

theorem readWord_cmd (k : Fin 8) : s.readWord (mgmtAddress k.val) = s.cmd[k] &&& cmdAssigned[k] := by
  have hword : wordAt (mgmtAddress k.val) = .cmd k :=
    (wordAt_mgmtAddress k.val (by omega)).trans (mgmtWordAt_cmd k)
  rw [State.readWord, hr, hword, ← cmdLayout_eq_cmdAssigned]
  rfl

theorem readWord_res (k : Fin 16) : s.readWord (mgmtAddress (16 + k.val)) = s.res[k] := by
  have hword : wordAt (mgmtAddress (16 + k.val)) = .res k :=
    (wordAt_mgmtAddress (16 + k.val) (by omega)).trans (mgmtWordAt_res k)
  rw [State.readWord, hr, hword]
  rfl

theorem readWord_go : s.readWord (mgmtAddress 8) = 0#32 := by
  rw [State.readWord, hr, wordAt_mgmtAddress 8 (by decide)]
  rfl

theorem readWord_mstat : s.readWord (mgmtAddress 9) = s.mstatWord := by
  rw [State.readWord, hr, wordAt_mgmtAddress 9 (by decide)]
  rfl

theorem readWord_summary : s.readWord (mgmtAddress 10) = s.summaryWord := by
  rw [State.readWord, hr, wordAt_mgmtAddress 10 (by decide)]
  rfl

theorem readWord_noWord {a : BitVec 7} (h : NoWord a) : s.readWord a = 0#32 := by
  have hlt : a.toNat < 128 := a.isLt
  rw [State.readWord, hr, if_neg Bool.false_ne_true, wordAt]
  rcases h with ⟨hwindow, hoffset⟩ | ⟨hlow, hhigh⟩ | hpast
  · rw [if_pos hwindow, takerWordAt_unused hoffset]
  · have hunused : mgmtWordAt (a.toNat - 64) = .mgmtUnused := by
      unfold mgmtWordAt
      iterate 5 rw [if_neg (by omega)]
      rw [if_pos (by omega)]
    rw [if_neg (by omega), if_pos (by omega), hunused]
  · rw [if_neg (by omega), if_neg (by omega)]

end Released

/-! ### What changes the words last written -/

/-- Only a reset asserts RESETn. -/
theorem exec_released {i : Instr} {s s' : State} (hon : i ≠ .powerOn) (hassert : i ≠ .resetnAssert)
    (hr : s.inReset = false) (h : exec i s = .next s') : s'.inReset = false := by
  by_cases hrelease : ∃ held, i = .resetnRelease held
  · obtain ⟨held, rfl⟩ := hrelease
    have hexec : exec (.resetnRelease held) s = .next s := by
      simp only [exec, execResetnRelease, hr, Bool.false_eq_true, if_false]
    obtain rfl := Host.Outcome.next.inj (hexec.symm.trans h)
    exact hr
  · exact (exec_follows i s hon hassert (fun held he => hrelease ⟨held, he⟩) s' h).inReset hr

section PortEffect

variable {t : Taker} {p p' : TakerPort} {i : Instr}

theorem lastDone_of_portEffect (h : PortEffect t p i p') (hi : ∀ v, i ≠ .done t v) :
    p'.lastDone = p.lastDone := by
  cases h with
  | done v a => exact absurd rfl (hi v)
  | _ => rfl

theorem lastYield_of_portEffect (h : PortEffect t p i p') (hi : ∀ v, i ≠ .yield t v) :
    p'.lastYield = p.lastYield := by
  cases h with
  | yield v a => exact absurd rfl (hi v)
  | _ => rfl

theorem lastPost_of_portEffect (h : PortEffect t p i p') (hi : ∀ v, i ≠ .post t v) :
    p'.lastPost = p.lastPost := by
  cases h with
  | post v a => exact absurd rfl (hi v)
  | _ => rfl

theorem lastTreset_of_portEffect (h : PortEffect t p i p') (hi : ∀ v, i ≠ .treset t v) :
    p'.lastTreset = p.lastTreset := by
  cases h with
  | treset v => exact absurd rfl (hi v)
  | _ => rfl

end PortEffect

/-! ### The counts -/

theorem countP_eq_sum {m : Nat} (p : Fin m → Bool) :
    (List.finRange m).countP p = ∑ e, if p e then 1 else 0 := by
  rw [Fin.sum_univ_def]
  induction List.finRange m with
  | nil => rfl
  | cons e l ih => rw [List.countP_cons, List.map_cons, List.sum_cons, ih, Nat.add_comm]

/-- Lists in which every number stands once in the list that `place` names, if it names one, hold together as
many numbers as `place` names a list for. -/
theorem sum_length_eq_countP {m : Nat} {lists : Fin m → List EntryNo}
    {place : EntryNo → Option (Fin m)}
    (h : ∀ k e, (lists k).count e = if place e = some k then 1 else 0) :
    ((List.finRange m).map fun k => (lists k).length).sum =
      (List.finRange 96).countP fun e => (place e).isSome := by
  have hlength : ∀ k, (lists k).length = ∑ e : EntryNo, if place e = some k then 1 else 0 := by
    intro k
    have hcard := Multiset.sum_count_eq_card (s := Finset.univ) (m := (lists k : Multiset EntryNo))
      fun e _ => Finset.mem_univ e
    simpa only [Multiset.coe_count, Multiset.coe_card, h] using hcard.symm
  have hplace : ∀ e, (∑ k : Fin m, if place e = some k then 1 else 0) =
      if (place e).isSome then 1 else 0 := by
    intro e
    cases place e with
    | none => simp
    | some j => simp
  rw [countP_eq_sum, ← Fin.sum_univ_def]
  simp only [hlength]
  rw [Finset.sum_comm]
  exact Finset.sum_congr rfl fun e _ => hplace e

theorem raisedLevel_isSome (o : Option Entry) : (raisedLevel o).isSome = isRaisedEntry o := by
  cases o with
  | none => rfl
  | some b => cases h : b.isRaised <;> simp [raisedLevel, isRaisedEntry, h]

theorem holderOf_isSome (o : Option Entry) : (holderOf o).isSome = isInService o := by
  cases o with
  | none => rfl
  | some b => simp [holderOf, isInService]

theorem raisedCount_eq {s : State} (h : QueuesMatch s) :
    s.raisedCount = ((List.finRange 16).map fun k => (s.queue k).length).sum := by
  rw [sum_length_eq_countP (queuesMatch_iff.mp h), State.raisedCount, countP_entries]
  simp only [raisedLevel_isSome]

theorem heldCount_eq {s : State} (h : StacksMatch s) :
    s.heldCount = ((List.finRange 4).map fun t => (s.stack t).length).sum := by
  rw [sum_length_eq_countP (stacksMatch_iff.mp h), State.heldCount, countP_entries]
  simp only [holderOf_isSome]

theorem countP_finRange_le {m : Nat} (p : Fin m → Bool) : (List.finRange m).countP p ≤ m :=
  List.countP_le_length.trans (List.length_finRange ..).le

theorem freeCount_le (s : State) : s.freeCount ≤ 96 := by
  rw [State.freeCount, countP_entries]
  exact countP_finRange_le _

theorem raisedCount_le (s : State) : s.raisedCount ≤ 96 := by
  rw [State.raisedCount, countP_entries]
  exact countP_finRange_le _

/-- Four stacks of at most four entries (R52). -/
theorem heldCount_le {s : State} (h : StacksMatch s) (hordered : StacksOrdered s) :
    s.heldCount ≤ 16 := by
  rw [heldCount_eq h, ← Fin.sum_univ_def]
  exact (Finset.sum_le_card_nsmul Finset.univ _ 4 fun t _ => (hordered t).1).trans (by simp)

/-- The fields of SUMMARY (R151). -/
theorem summaryWord_fields {s : State} (hheld : s.heldCount ≤ 16) :
    (s.summaryWord.extractLsb' 0 7).toNat = s.freeCount ∧
      (s.summaryWord.extractLsb' 8 7).toNat = s.raisedCount ∧
      (s.summaryWord.extractLsb' 16 5).toNat = s.heldCount ∧
      s.summaryWord.getLsbD 31 = s.clearing := by
  have hfree := freeCount_le s
  have hraised := raisedCount_le s
  have hclearing := flag_lt s.clearing
  rw [State.summaryWord, getLsbD_eq_extract _ 31]
  simp (disch := omega) only [extract_pack_cons, extract_pack_nil, extract_put_same,
    extract_put_above, extract_put_below, BitVec.zero_or, BitVec.or_zero]
  exact ⟨Nat.mod_eq_of_lt (by omega), Nat.mod_eq_of_lt (by omega), Nat.mod_eq_of_lt (by omega),
    getLsbD_ofNat_flag _⟩

theorem answer_code_lt (a : Answer) : a.code < 8 := by cases a <;> decide

/-- The fields of ANSWER (R73). -/
theorem answerWord_fields {s : State} {t : Taker} (hlist : (s.withdrawnOf t).length ≤ 4) :
    ((s.answerWord t).extractLsb' 0 3).toNat = (s.port t).answer.code ∧
      ((s.answerWord t).extractLsb' 8 3).toNat = (s.withdrawnOf t).length := by
  have hcode := answer_code_lt (s.port t).answer
  rw [State.answerWord]
  simp (disch := omega) only [extract_pack_cons, extract_pack_nil, extract_put_same,
    extract_put_above, extract_put_below, BitVec.zero_or, BitVec.or_zero]
  exact ⟨Nat.mod_eq_of_lt (by omega), Nat.mod_eq_of_lt (by omega)⟩

/-! ### The obligation -/

/-- Settles O55: the words written and kept, the words at their addresses, and the counts. -/
theorem summaryStackAndAnswerReads : Obligations.SummaryStackAndAnswerReads := by
  refine ⟨fun s s' t v hr => ⟨fun h => ?done, fun h => ?yield, fun h => ?post, fun h => ?treset⟩,
    fun i s s' t hwf hon hassert hr h => ?kept, fun s hr => ⟨readWord_cmd hr, readWord_res hr,
      readWord_go hr, fun a => readWord_noWord hr, fun t s' h => ?claim, fun t s' h => ?peek,
      fun s' h => ?mstat⟩, fun s hqueues hstacks hordered hlists hr => ?counts⟩
  case done =>
    rw [readWord_done (exec_released (i := .done t v) nofun nofun hr h)]
    obtain rfl := Host.Outcome.next.inj ((exec_done_of_released hr t v).symm.trans h)
    obtain ⟨a, hport, -⟩ := portAnswered_writeDone s t v
    rw [hport]
  case yield =>
    rw [readWord_yield (exec_released (i := .yield t v) nofun nofun hr h)]
    obtain rfl := Host.Outcome.next.inj ((exec_yield_of_released hr t v).symm.trans h)
    obtain ⟨a, hport, -⟩ := portAnswered_writeYield s t v
    rw [hport]
  case post =>
    rw [readWord_post (exec_released (i := .post t v) nofun nofun hr h)]
    obtain rfl := Host.Outcome.next.inj ((exec_post_of_released hr t v).symm.trans h)
    obtain ⟨a, hport, -⟩ := portAnswered_writePost s t v
    rw [hport]
  case treset =>
    rw [readWord_treset (exec_released (i := .treset t v) nofun nofun hr h)]
    obtain rfl := Host.Outcome.next.inj ((exec_treset_of_released hr t v).symm.trans h)
    rw [(portAnswered_writeTreset s t v).1]
  case kept =>
    have hr' := exec_released hon hassert hr h
    have heffect := exec_portsFollow s hwf hon hassert s' h t
    rw [readWord_done hr', readWord_done hr, readWord_yield hr', readWord_yield hr,
      readWord_post hr', readWord_post hr, readWord_treset hr', readWord_treset hr]
    exact ⟨lastDone_of_portEffect heffect, lastYield_of_portEffect heffect,
      lastPost_of_portEffect heffect, lastTreset_of_portEffect heffect⟩
  case claim =>
    obtain rfl := Host.Outcome.next.inj ((exec_claim_oneTaker hr t).symm.trans h)
    rw [readData_claimOne, readWord_claim hr]
  case peek =>
    obtain rfl := Host.Outcome.next.inj ((exec_peek_of_released hr t).symm.trans h)
    rw [readData_returnRead, readWord_peek hr]
  case mstat =>
    rw [readWord_mstat hr]
    simp only [exec, execMstatRead, hr, Bool.false_eq_true, if_false] at h
    obtain rfl := Host.Outcome.next.inj h
    rfl
  case counts =>
    obtain ⟨hfree, hraised, hheld, hclearing⟩ := summaryWord_fields (heldCount_le hstacks hordered)
    rw [readWord_summary hr, hfree, hraised, hheld, hclearing, raisedCount_eq hqueues,
      heldCount_eq hstacks, State.freeCount, countP_entries]
    refine ⟨rfl, rfl, rfl, rfl, fun t => ?_⟩
    have hlength : (s.stack t).reverse.length ≤ 4 := by
      rw [List.length_reverse]
      exact (hordered t).1
    rw [readWord_stack hr, readWord_answer hr, State.stackWord, packList_length hlength,
      List.length_reverse]
    exact ⟨rfl, packList_position _, answerWord_fields (hlists t).1⟩

end Sys2Proof.Claims
end
